-- ==== Sys2Proof/Word.lean ====
section
/-! DEFINITION. The word types of LSCORE (00_scope.md R10) and the readings u, s, zext, sext and trunc of
00_scope.md R12. Bit 0 is the least significant bit everywhere (R11). -/

namespace Sys2Proof

/-- The unsigned 32-bit running sum ACC (R10, R22). -/
abbrev Acc := BitVec 32
/-- The unsigned 16-bit countdown CNT (R10, R23). -/
abbrev Count := BitVec 16
/-- The signed 16-bit data of RES, MIN, MAX and MEAS (R10, R82). -/
abbrev Data := BitVec 16
/-- A phase code, a value of SEQ (R10, R85). -/
abbrev PhaseCode := BitVec 5
/-- The request counter RQC (R10, R32). -/
abbrev ReqCount := BitVec 8
/-- The CalibrationState CST (R10, R83). -/
abbrev CalState := BitVec 2
/-- A 4-bit display code (R84). -/
abbrev DispCode := BitVec 4
/-- A RawSample: the 12 bits of `smp_data` (R81). -/
abbrev RawSample := BitVec 12
/-- The event vector EV[3:0] = rst, dly_done, poll_trig, smp_trig (R80, R86). -/
abbrev EventVector := BitVec 4
/-- A 16-bit trace word (R94). -/
abbrev TraceWord := BitVec 16

/-- `u(X)` of R12: a register read as an unsigned number. -/
@[simp] abbrev uval {w : Nat} (x : BitVec w) : Nat := x.toNat
/-- `s(X)` of R12: a register read as two's complement. -/
@[simp] abbrev sval {w : Nat} (x : BitVec w) : Int := x.toInt
/-- `zext_n(v)` of R12. -/
@[simp] abbrev zext {w : Nat} (n : Nat) (x : BitVec w) : BitVec n := x.setWidth n
/-- `sext_n(v)` of R12. -/
@[simp] abbrev sext {w : Nat} (n : Nat) (x : BitVec w) : BitVec n := x.signExtend n
/-- `trunc_n` of R12, of a bit vector: the low n bits. -/
@[simp] abbrev trunc {w : Nat} (n : Nat) (x : BitVec w) : BitVec n := x.setWidth n

end Sys2Proof
end

