-- ==== Sys2Proof/Config.lean ====
section
/-! DEFINITION. The constants of LSCORE (00_scope.md R9) and the values the spec leaves open: the named rates and
tolerances that no rule uses (R9, D31) and the order of simultaneous events (60_exceptions.md R207, D22). -/

namespace Sys2Proof.Config

/-- `N`, the width of a RawSample (R9). -/
@[simp] abbrev rawBits : Nat := 12
/-- The largest RawSample, 2^N - 1 (R81). -/
@[simp] abbrev rawMax : Nat := 2 ^ rawBits - 1
/-- `DECIMATION_FACTOR` (R9, D30). -/
@[simp] abbrev df : Nat := 256
/-- `LOG2_DF` (R9). -/
@[simp] abbrev log2Df : Nat := 8
/-- `MIN_LIGHT`, the default MIN (R9). -/
@[simp] abbrev minLight : Nat := 610
/-- `MAX_LIGHT`, the default MAX (R9). -/
@[simp] abbrev maxLight : Nat := 4095
/-- `LEVEL_MAX`, the Scaler's multiplier and the top display level (R9). -/
@[simp] abbrev levelMax : Nat := 9
/-- `T_SETTLE` in milliseconds (R9). -/
@[simp] abbrev tSettle : Nat := 1000
/-- `T_DEBOUNCE` in milliseconds (R9). -/
@[simp] abbrev tDebounce : Nat := 500
/-- `T_LOOP` in milliseconds (R9). -/
@[simp] abbrev tLoop : Nat := 50
/-- `ARM_THRESHOLD` (R9). -/
@[simp] abbrev armThreshold : Nat := 1
/-- `CODE_MIN_PROMPT`, a display level (R9). -/
@[simp] abbrev minPromptLevel : Nat := 0
/-- `CODE_MAX_PROMPT`, a display level (R9). -/
@[simp] abbrev maxPromptLevel : Nat := 9
/-- `CALIB_MAX`, the last value of the CalibrationState enumeration (R83). -/
@[simp] abbrev calibMax : Nat := 2

/-- `SAMPLE_RATE`: OPEN, used by no rule (R9, D31). Log entry 9. -/
opaque sampleRate : Nat
/-- `SYSCLK`: OPEN, used by no rule (R9, D31). Log entry 9. -/
opaque sysclk : Nat
/-- The rate of PollTrigger: OPEN, used by no rule (R142, D31). Log entry 9. -/
opaque pollRate : Nat
/-- The tolerance of the requested delays: OPEN, used by no rule (R250, D31). Log entry 9. -/
opaque delayTolerance : Nat

/-- FREE VALUE: which of several simultaneous events comes first (R73, R86, R207). The k-th choice the machine
makes picks the event of index `openOrder k` modulo the number of candidates. Log entry 3. -/
opaque openOrder : Nat → Nat

end Sys2Proof.Config
end

