-- ==== Sys2Proof/Syntax.lean ====
section
/-! DEFINITION. The 27 operations of LSCORE, one constructor per row of opcode_table.json (30_encoding.md R95). -/

namespace Sys2Proof

/-- The operations (00_scope.md R4, R17): the 22 sequencer operations of R85 in the order of their codes, the four
strobe events of R86 and the level event BTN. No operation has an immediate (R88). -/
inductive Instr where
  | mSusp | mRead | mShow | mReq | mClr | mResm | mWait
  | cInd | cMask | cDly1 | cMin0 | cMinw | cMind | cMins
  | cDly2 | cMax0 | cMaxw | cMaxd | cMaxs | cChk | cDly3 | cDone
  /-- SAMPLE with its payload `d = smp_data[11:0]` (R111). -/
  | sample (d : RawSample)
  | poll
  | dlydone
  | reset
  /-- BTN(v): the level of `btn` becomes `v`, true for pressed (R143). -/
  | btn (v : Bool)
  deriving DecidableEq, Repr

end Sys2Proof
end

