-- ==== Sys2Proof/TraceSyntax.lean ====
section
/-! DEFINITION. The trace notation of 30_encoding.md R92 (lines) and R93 (pseudo-lines). -/

namespace Sys2Proof

/-- One line of a trace (R92). -/
inductive TraceLine where
  /-- RESET, SAMPLE d, POLL, BTN v or DLYDONE: an event operation. -/
  | event (i : Instr)
  /-- STEP: the sequencer performs the operation that SEQ selects. -/
  | step
  /-- STEP name: the same, and asserts that the operation performed is `i`. -/
  | stepNamed (i : Instr)
  deriving DecidableEq, Repr

/-- A line or a pseudo-line (R93). -/
inductive TraceItem where
  | line (l : TraceLine)
  /-- SAMPLE d *n. -/
  | sampleTimes (d : RawSample) (n : Nat)
  /-- WINDOW d: 256 lines SAMPLE d. -/
  | window (d : RawSample)
  /-- RUN: STEP until the sequencer holds. -/
  | run
  /-- RUN k: RUN with the assertion that exactly k operations were performed. -/
  | runExactly (k : Nat)
  deriving DecidableEq, Repr

end Sys2Proof
end

