-- ==== Sys2Proof/WellFormed.lean ====
section
/-! DEFINITION. Well-formed operations and trace lines. The payload of SAMPLE is the 12-bit port itself, so an
operation cannot be ill-formed (30_encoding.md R90 (d)); a trace line can (R92). -/

namespace Sys2Proof

/-- The sequencer operations: the 22 operations of format SEQ (R85). -/
def Instr.isSequencer : Instr → Bool
  | .sample _ | .poll | .dlydone | .reset | .btn _ => false
  | .mSusp | .mRead | .mShow | .mReq | .mClr | .mResm | .mWait => true
  | .cInd | .cMask | .cDly1 | .cMin0 | .cMinw | .cMind | .cMins => true
  | .cDly2 | .cMax0 | .cMaxw | .cMaxd | .cMaxs | .cChk | .cDly3 | .cDone => true

/-- R81, R111: a RawSample lies in 0..4095; no other operation has a bounded operand (R88). -/
def Instr.wf : Instr → Bool
  | .sample d => decide (uval d ≤ Config.rawMax)
  | .poll | .dlydone | .reset | .btn _ => true
  | .mSusp | .mRead | .mShow | .mReq | .mClr | .mResm | .mWait => true
  | .cInd | .cMask | .cDly1 | .cMin0 | .cMinw | .cMind | .cMins => true
  | .cDly2 | .cMax0 | .cMaxw | .cMaxd | .cMaxs | .cChk | .cDly3 | .cDone => true

/-- R92: an event line names an event operation, `STEP name` a mnemonic of R85. -/
def TraceLine.wf : TraceLine → Bool
  | .event i => !i.isSequencer && i.wf
  | .step => true
  | .stepNamed i => i.isSequencer

/-- R93: the pseudo-lines take any count and any payload of the port. -/
def TraceItem.wf : TraceItem → Bool
  | .line l => l.wf
  | .sampleTimes d _ => (Instr.sample d).wf
  | .window d => (Instr.sample d).wf
  | .run => true
  | .runExactly _ => true

end Sys2Proof
end

