-- ==== Sys2Proof/Decode.lean ====
section
/-! DEFINITION. The decoder and the encoder: phase codes (30_encoding.md R85), the event vector (R86), the selector
of an operation (R80, R87), trace words (R94), and the words of opcode_table.json. -/

namespace Sys2Proof

/-! ### Phase codes, R85 -/

abbrev Phase.mSusp : PhaseCode := 0x00
abbrev Phase.mRead : PhaseCode := 0x01
abbrev Phase.mShow : PhaseCode := 0x02
abbrev Phase.mReq : PhaseCode := 0x03
abbrev Phase.mClr : PhaseCode := 0x04
abbrev Phase.mResm : PhaseCode := 0x05
abbrev Phase.mWait : PhaseCode := 0x06
abbrev Phase.cInd : PhaseCode := 0x08
abbrev Phase.cMask : PhaseCode := 0x09
abbrev Phase.cDly1 : PhaseCode := 0x0A
abbrev Phase.cMin0 : PhaseCode := 0x0B
abbrev Phase.cMinw : PhaseCode := 0x0C
abbrev Phase.cMind : PhaseCode := 0x0D
abbrev Phase.cMins : PhaseCode := 0x0E
abbrev Phase.cDly2 : PhaseCode := 0x0F
abbrev Phase.cMax0 : PhaseCode := 0x10
abbrev Phase.cMaxw : PhaseCode := 0x11
abbrev Phase.cMaxd : PhaseCode := 0x12
abbrev Phase.cMaxs : PhaseCode := 0x13
abbrev Phase.cChk : PhaseCode := 0x14
abbrev Phase.cDly3 : PhaseCode := 0x15
abbrev Phase.cDone : PhaseCode := 0x16

/-! ### Selectors, R80 -/

/-- The four strobe inputs, the bits of EV (R80, R86). -/
inductive Strobe where
  | smpTrig | pollTrig | dlyDone | rst
  deriving DecidableEq, Repr

/-- What selects an operation (R80): the value of SEQ, one asserted strobe with what `smp_data` shows, or the level
that `btn` takes. -/
inductive Selector where
  | seq (code : PhaseCode)
  | evt (strobe : Strobe) (data : RawSample)
  | lvl (v : Bool)
  deriving DecidableEq, Repr

/-- Why a selector selects no operation: only an unassigned phase code does so (R87, R90 (c)). -/
inductive DecodeError where
  | unassignedPhase (code : PhaseCode)
  deriving DecidableEq, Repr

/-- The bit of EV that a strobe is (R80). -/
def Strobe.mask : Strobe → EventVector
  | .smpTrig => 0b0001
  | .pollTrig => 0b0010
  | .dlyDone => 0b0100
  | .rst => 0b1000

/-- The strobes asserted in an event vector; each is one event (R86). -/
def strobesOf (ev : EventVector) : List Strobe :=
  [Strobe.smpTrig, .pollTrig, .dlyDone, .rst].filter fun t => ev &&& t.mask != 0

/-- The row of R85 with this code. -/
def decodeSeq (code : PhaseCode) : Option Instr :=
  match code with
  | 0x00#5 => some .mSusp
  | 0x01#5 => some .mRead
  | 0x02#5 => some .mShow
  | 0x03#5 => some .mReq
  | 0x04#5 => some .mClr
  | 0x05#5 => some .mResm
  | 0x06#5 => some .mWait
  | 0x08#5 => some .cInd
  | 0x09#5 => some .cMask
  | 0x0A#5 => some .cDly1
  | 0x0B#5 => some .cMin0
  | 0x0C#5 => some .cMinw
  | 0x0D#5 => some .cMind
  | 0x0E#5 => some .cMins
  | 0x0F#5 => some .cDly2
  | 0x10#5 => some .cMax0
  | 0x11#5 => some .cMaxw
  | 0x12#5 => some .cMaxd
  | 0x13#5 => some .cMaxs
  | 0x14#5 => some .cChk
  | 0x15#5 => some .cDly3
  | 0x16#5 => some .cDone
  | _ => none

/-- The event of one strobe (R86); the payload is `smp_data` and only SAMPLE has one. -/
def decodeStrobe (t : Strobe) (data : RawSample) : Instr :=
  match t with
  | .smpTrig => .sample data
  | .pollTrig => .poll
  | .dlyDone => .dlydone
  | .rst => .reset

/-- The decoder (R87), total on selectors; an unassigned phase is rejected by name. -/
def decode : Selector → Except DecodeError Instr
  | .seq code =>
    match decodeSeq code with
    | some i => .ok i
    | none => .error (.unassignedPhase code)
  | .evt t data => .ok (decodeStrobe t data)
  | .lvl v => .ok (.btn v)

/-- The encoder: the selector of an operation, from R85, R86 and R80; `smp_data` is 0 for an event without a
payload, as in R94. -/
def encode : Instr → Selector
  | .mSusp => .seq Phase.mSusp
  | .mRead => .seq Phase.mRead
  | .mShow => .seq Phase.mShow
  | .mReq => .seq Phase.mReq
  | .mClr => .seq Phase.mClr
  | .mResm => .seq Phase.mResm
  | .mWait => .seq Phase.mWait
  | .cInd => .seq Phase.cInd
  | .cMask => .seq Phase.cMask
  | .cDly1 => .seq Phase.cDly1
  | .cMin0 => .seq Phase.cMin0
  | .cMinw => .seq Phase.cMinw
  | .cMind => .seq Phase.cMind
  | .cMins => .seq Phase.cMins
  | .cDly2 => .seq Phase.cDly2
  | .cMax0 => .seq Phase.cMax0
  | .cMaxw => .seq Phase.cMaxw
  | .cMaxd => .seq Phase.cMaxd
  | .cMaxs => .seq Phase.cMaxs
  | .cChk => .seq Phase.cChk
  | .cDly3 => .seq Phase.cDly3
  | .cDone => .seq Phase.cDone
  | .sample d => .evt .smpTrig d
  | .poll => .evt .pollTrig 0
  | .dlydone => .evt .dlyDone 0
  | .reset => .evt .rst 0
  | .btn v => .lvl v

/-! ### Trace words, R94 -/

/-- The trace word of a strobe and its payload: `TW[15:12]` is EV with one bit set and `TW[11:0]` the payload, so SAMPLE d
is `0x1000 + d` (R94). -/
def strobeWord (t : Strobe) (d : RawSample) : TraceWord := BitVec.ofNat 16 (uval t.mask * 4096 + uval d)

/-- The trace word of a line. R94 gives STEP and STEP name the same word. An ill-formed event line (R92), which names a
sequencer operation, is written as STEP too. -/
def TraceLine.word : TraceLine → TraceWord
  | .event i =>
    match encode i with
    | .evt t d => strobeWord t d
    | .lvl v => if v then 0x0001 else 0x0000
    | .seq _ => 0xF000
  | .step => 0xF000
  | .stepNamed _ => 0xF000

/-- The line that a trace word stands for; a word that R94 gives to no line is rejected. -/
def decodeTraceWord (tw : TraceWord) : Option TraceLine :=
  let ev : EventVector := tw.extractLsb' 12 4
  let low : RawSample := tw.extractLsb' 0 12
  if ev = 0xF then
    if low = 0 then some .step else none
  else
    match strobesOf ev with
    | [] => if low = 0 then some (.event (.btn false)) else if low = 1 then some (.event (.btn true)) else none
    | [t] => if t = .smpTrig ∨ low = 0 then some (.event (decodeStrobe t low)) else none
    | _ :: _ :: _ => none

/-! ### The words of opcode_table.json

The table numbers a row's bits within its own selector: SEQ[4:0] for the 22 sequencer operations, EV[3:0] for the four
strobe events, `v` for BTN; M_READ, SAMPLE and BTN, for one, all have the number 1. DESIGN CHOICE, log entry 7: the number of
bits tells the selectors apart. One bit is `btn`, the width R80 gives LVL; other widths up to 4 bits are EV; 5 to 8 bits are
SEQ (one byte, bits 7..5 zero); 16 bits are a trace word. -/

/-- The selector that a word of the table stands for. DESIGN CHOICE, log entry 7: a one-bit word is the level of BTN (format
LVL, R80, R95), not EV[0]; and SAMPLE given as a bare word of EV, which has no bits of `smp_data`, has the payload 0. -/
def tableSelector (nbits w : Nat) : Option Selector :=
  if nbits = 1 then
    if w < 2 then some (.lvl (w == 1)) else none
  else if nbits ≤ 4 then
    if w < 16 then
      match strobesOf (BitVec.ofNat 4 w) with
      | [t] => some (.evt t 0)
      | _ => none
    else none
  else if nbits ≤ 8 then
    if w < 32 then some (.seq (BitVec.ofNat 5 w)) else none
  else if nbits = 16 then
    if w < 65536 then
      match decodeTraceWord (BitVec.ofNat 16 w) with
      | some (.event i) => some (encode i)
      | _ => none
    else none
  else none

/-- The operation of a word of the table. -/
def decodeTableWord (nbits w : Nat) : Option Instr :=
  match tableSelector nbits w with
  | some sel =>
    match decode sel with
    | .ok i => some i
    | .error _ => none
  | none => none

end Sys2Proof
end

