-- ==== Sys2Proof/Machine/State.lean ====
section
/-! DEFINITION. The state of LSCORE (10_state.md R21), the button level of its environment (R43), and the model's own
list of what happens next; the faults (60_exceptions.md R202, R203); the state after reset (R38). -/

namespace Sys2Proof.Machine

/-- What happens at one time at the ports and in the foreground (20_memory.md R73, 30_encoding.md R86): every asserted
strobe, a change of `btn`, and a turn of the sequencer are operations that occur together and are performed one at a
time. The model's own, log entries 2 and 11. -/
structure Moment where
  /-- EV[3:0] = rst, dly_done, poll_trig, smp_trig. -/
  strobes : EventVector
  /-- `smp_data`. -/
  data : RawSample
  /-- The value `btn` takes, if it changes. -/
  level : Option Bool
  /-- Whether the sequencer performs its operation. -/
  seqTurn : Bool
  deriving DecidableEq, Repr

/-- The fourteen registers of R21, the environment's button level, and two fields of the model. -/
structure State where
  /-- The running sum (R22). -/
  acc : Acc
  /-- Samples still to be taken before the next publication (R23). -/
  cnt : Count
  /-- The published DecimatedResult (R24). -/
  res : Data
  /-- CalibrationRange.min (R25). -/
  min : Data
  /-- CalibrationRange.max (R25). -/
  max : Data
  /-- The Main Loop's `measured` (R26). -/
  meas : Data
  /-- The phase of the sequencer (R27). -/
  seq : PhaseCode
  /-- The CalibrationRequest (R28). -/
  req : Bool
  /-- The request counter (R32). -/
  rqc : ReqCount
  /-- The CalibrationState (R31, R83). -/
  cst : CalState
  /-- The enable of the sample path (R29). -/
  sen : Bool
  /-- The enable of the button poll (R30). -/
  pen : Bool
  /-- The CalibrationIndicator (R33). -/
  ind : Bool
  /-- The code shown to the DisplayCodeSink (R34). -/
  disp : DispCode
  /-- The environment's variable BTN, true for pressed (R43, R143). -/
  btn : Bool
  /-- The model's own: the moments still to come, the next one first (log entries 2 and 5). -/
  inbox : List Moment
  /-- The model's own: how many free choices of order have been made (log entry 3). -/
  draws : Nat
  deriving DecidableEq, Repr

/-- The two model faults (R200). A fault is an outcome: nothing is written and the run is faulted. -/
inductive Fault where
  /-- F_DIVZERO: raised by M_SHOW when MAX = MIN (R202). Safe: the source calls the case undefined behaviour. -/
  | divZero
  /-- F_SEQ: raised by the sequencer's turn at an unassigned code, which it records (R203). Safe: no reachable state
  holds such a code. -/
  | seq (code : PhaseCode)
  deriving DecidableEq, Repr

/-- Reasons to give an operation no meaning. -/
inductive Refusal where
  /-- For an arm of `exec` without a meaning; no arm is without one. Safe. -/
  | notModelled (mnemonic : String)
  deriving DecidableEq, Repr

/-- The state after RESET (R38, R231). The spec gives every register; the button is released (log entry 4), nothing is
waiting (log entry 5) and no choice has been made (log entry 3). -/
def State.reset : State where
  acc := 0
  cnt := BitVec.ofNat 16 Config.df
  res := 0
  min := BitVec.ofNat 16 Config.minLight
  max := BitVec.ofNat 16 Config.maxLight
  meas := 0
  seq := 0x00
  req := false
  rqc := 0
  cst := 0
  sen := true
  pen := true
  ind := false
  disp := 0b0000
  btn := false
  inbox := []
  draws := 0

end Sys2Proof.Machine
end

