-- ==== Sys2Proof/Machine/Ops.lean ====
section
/-! DEFINITION. The operations that the meanings share: the hold, the fault, the sequencer's enable and transfer
(00_scope.md R14, 60_exceptions.md R200, R212), the delay phases (42_inputs.md R145, R146), the mask of a trigger
(R205). LSCORE has no memory (20_memory.md R60), so there is no operation over one. -/

namespace Sys2Proof.Machine

/-- The outcome of an operation of LSCORE. -/
abbrev Result := Host.Outcome State Fault Refusal

/-- `hold` of R14: the agent takes no step and the state is unchanged. Log entry 1. -/
def hold (s : State) : Result := .next s

/-- `raise F` of R14 and R200: the operation ends and writes nothing. There is no handler, no saved state and no
vector; it is the whole of taking a fault here. Log entry 6. -/
def raise (f : Fault) : Result := .fault f

/-- The fault codes of R202 and R203 (D25); they appear on no port (R201). -/
def Fault.code : Fault → Nat
  | .divZero => 1
  | .seq _ => 2

/-- A sequencer operation is enabled when SEQ holds its code (R85); an operation that is not enabled is not performed
(R14). Log entry 1. -/
def whenPhase (code : PhaseCode) (s : State) (performed : Result) : Result :=
  if s.seq = code then performed else hold s

/-- A trigger is taken when its enable is 1 and dropped, with no state changed, when it is 0 (R205). -/
def whenEnabled (enable : Bool) (s : State) (taken : State) : Result :=
  if enable then .next taken else .next s

/-- `SEQ <- P`, the sequencer's transfer (R14, R27). -/
def State.goto (s : State) (code : PhaseCode) : State := { s with seq := code }

/-- The six delay phases (R145). -/
def isDelayPhase (code : PhaseCode) : Bool :=
  code == Phase.mWait || code == Phase.cDly1 || code == Phase.cMind || code == Phase.cDly2 || code == Phase.cMaxd ||
    code == Phase.cDly3

/-- The 22 assigned codes (R85). -/
def isAssigned (code : PhaseCode) : Bool := (decodeSeq code).isSome

/-- The phase that DLYDONE moves a delay phase to; every other phase stays (R146). -/
def afterDelay (code : PhaseCode) : PhaseCode :=
  if code = Phase.mWait then Phase.mSusp
  else if code = Phase.cDly1 then Phase.cMin0
  else if code = Phase.cMind then Phase.cMins
  else if code = Phase.cDly2 then Phase.cMax0
  else if code = Phase.cMaxd then Phase.cMaxs
  else if code = Phase.cDly3 then Phase.cDone
  else code

/-- The delay that a phase requests, in milliseconds; 0 outside the delay phases (R89). -/
def delayMs (code : PhaseCode) : Nat :=
  if code = Phase.mWait then Config.tLoop
  else if code = Phase.cDly1 ∨ code = Phase.cDly2 ∨ code = Phase.cDly3 then Config.tSettle
  else if code = Phase.cMind ∨ code = Phase.cMaxd then Config.tDebounce
  else 0

/-- The two waits for the button (R175, R181). -/
def isButtonWait (code : PhaseCode) : Bool := code == Phase.cMinw || code == Phase.cMaxw

/-- The holds (R212): a delay phase, or a wait for the button while it is released. -/
def holds (s : State) : Bool := isDelayPhase s.seq || (isButtonWait s.seq && !s.btn)

/-- What a selector without an operation raises: the sequencer at an unassigned code raises F_SEQ with the code
(R87 (a), R203). -/
def decodeFault : DecodeError → Result
  | .unassignedPhase code => raise (.seq code)

/-- RESET's effect (R230): every register takes its reset value; the button level is not changed (case d), and neither
are the moments still to come, which are the environment's. -/
def State.afterReset (s : State) : State :=
  { State.reset with btn := s.btn, inbox := s.inbox, draws := s.draws }

end Sys2Proof.Machine
end

