-- ==== Sys2Proof/Machine/Operands.lean ====
section
/-! DEFINITION. How operations read their operands: the payload of SAMPLE (30_encoding.md R88), the signed data
registers (00_scope.md R12), the button level (10_state.md R43). Reading has no side effect (20_memory.md R63). -/

namespace Sys2Proof.Machine

/-- `zext_32(smp_data[11:0])`, not scaled and not shifted (R88). -/
@[simp] abbrev sampleOperand (d : RawSample) : Acc := zext 32 d

/-- `s(MEAS)`, the Scaler's first operand in M_SHOW (R121, R153). -/
@[simp] abbrev State.measured (s : State) : Int := sval s.meas

/-- `s(MIN)` (R121). -/
@[simp] abbrev State.rangeMin (s : State) : Int := sval s.min

/-- `s(MAX)` (R121). -/
@[simp] abbrev State.rangeMax (s : State) : Int := sval s.max

/-- BTN = 1, read by POLL, C_MINW and C_MAXW (R43, R63). -/
@[simp] abbrev State.pressed (s : State) : Bool := s.btn

/-- The current DecimatedResult, read whole (R63, R64) by M_READ, C_MINS and C_MAXS. -/
@[simp] abbrev State.decimatedResult (s : State) : Data := s.res

end Sys2Proof.Machine
end

