-- ==== Sys2Proof/Machine/Flags.lean ====
section
/-! DEFINITION. LSCORE's single flag REQ (10_state.md R28) and the tests that operations make and do not store: the
filter's zero test, the arming threshold, the CalibrationState tests. -/

namespace Sys2Proof.Machine

/-- REQ after a taken poll: set when the button is pressed, never cleared (R141). -/
@[simp] abbrev reqAfterPoll (s : State) : Bool := s.req || s.pressed

/-- The countdown reaches zero (R111 step 3). -/
@[simp] abbrev countReachesZero (cnt : Count) : Bool := cnt == 0

/-- "past the arming threshold": the counter exceeds one (R154, R156). -/
@[simp] abbrev pastArming (rqc : ReqCount) : Bool := decide (Config.armThreshold < uval rqc)

/-- CST = Idle (R83). -/
@[simp] abbrev isIdle (cst : CalState) : Bool := cst == 0

/-- CST = AwaitingMin (R83). -/
@[simp] abbrev isAwaitingMin (cst : CalState) : Bool := cst == 1

/-- CST = AwaitingMax (R83). -/
@[simp] abbrev isAwaitingMax (cst : CalState) : Bool := cst == 2

/-- CST outside the enumeration (R83, R90 (a)). -/
@[simp] abbrev isOutOfRange (cst : CalState) : Bool := decide (Config.calibMax < uval cst)

end Sys2Proof.Machine
end

