-- ==== Sys2Proof/Machine/Scaler.lean ====
section
/-! DEFINITION. The Scaler and the display-code encoder (41_scaler.md R122, R129), with the two other ways to compute
the level that the spec names: by truncation (R124) and in fixed width (R123). -/

namespace Sys2Proof.Machine

/-- "clamp any negative result to 0" (R122). -/
def clampNegative (q : Int) : Nat := if q < 0 then 0 else q.toNat

/-- `SCALE(m, lo, hi)` (R122), over the integers; `Int.fdiv` is the floor of the exact rational. -/
def scale (m lo hi : Int) : Except Fault Nat :=
  if hi = lo then .error .divZero
  else
    let m' := min m hi
    let num := (Config.levelMax : Int) * (m' - lo)
    let den := hi - lo
    let q := Int.fdiv num den
    .ok (clampNegative q)

/-- SCALE with truncation toward zero in place of the floor (R124). -/
def scaleByTruncation (m lo hi : Int) : Except Fault Nat :=
  if hi = lo then .error .divZero
  else
    let q := Int.tdiv ((Config.levelMax : Int) * (min m hi - lo)) (hi - lo)
    .ok (clampNegative q)

/-- The quotient of R123: a divider that truncates toward zero, less one when the signs differ and the division is not
exact, in 21-bit two's complement. -/
def floorQuotient21 (num den : BitVec 21) : BitVec 21 :=
  if num.msb != den.msb && num.srem den != 0 then num.sdiv den - 1 else num.sdiv den

/-- SCALE in the intermediate widths of R123: `m' - lo` and `hi - lo` in 17 bits, the numerator and the quotient in
21 bits. -/
def scaleFixed (m lo hi : Data) : Except Fault (BitVec 21) :=
  if hi = lo then .error .divZero
  else
    let m' : Data := if hi.slt m then hi else m
    let diff : BitVec 17 := sext 17 m' - sext 17 lo
    let den : BitVec 17 := sext 17 hi - sext 17 lo
    let q := floorQuotient21 (BitVec.ofNat 21 Config.levelMax * sext 21 diff) (sext 21 den)
    .ok (if q.msb then 0 else q)

/-- `DISPENC(level)` (R129, R84): total on the integers. -/
def dispenc (level : Int) : DispCode :=
  if 0 ≤ level ∧ level ≤ (Config.levelMax : Int) then BitVec.ofInt 4 level else 0b1000

/-- The source's tuple of a display code, least significant bit first (R84, R44). -/
def dispTuple (code : DispCode) : Bool × Bool × Bool × Bool :=
  (code.getLsbD 0, code.getLsbD 1, code.getLsbD 2, code.getLsbD 3)

end Sys2Proof.Machine
end

