-- ==== Sys2Proof/Machine/Calibration.lean ====
section
/-! DEFINITION. The Calibration State Machine (44_calibration.md): C_IND to C_DONE. -/

namespace Sys2Proof.Machine

/-- C_IND (R171). -/
def execCInd (s : State) : Result :=
  whenPhase Phase.cInd s (.next { s with ind := true, seq := Phase.cMask })

/-- C_MASK (R172): polls masked, samples enabled. -/
def execCMask (s : State) : Result :=
  whenPhase Phase.cMask s (.next { s with pen := false, sen := true, seq := Phase.cDly1 })

/-- C_DLY1 (R173): a delay phase. -/
def execCDly1 (s : State) : Result := whenPhase Phase.cDly1 s (hold s)

/-- C_MIN0 (R174): prompt for the minimum, or skip step 4. -/
def execCMin0 (s : State) : Result :=
  whenPhase Phase.cMin0 s
    (.next (if isAwaitingMin s.cst then { s with disp := dispenc Config.minPromptLevel, seq := Phase.cMinw }
      else s.goto Phase.cDly2))

/-- C_MINW (R175): block until the button is pressed. -/
def execCMinw (s : State) : Result :=
  whenPhase Phase.cMinw s (if s.pressed then .next (s.goto Phase.cMind) else hold s)

/-- C_MIND (R176): a delay phase. -/
def execCMind (s : State) : Result := whenPhase Phase.cMind s (hold s)

/-- C_MINS (R178): acquire the minimum. -/
def execCMins (s : State) : Result :=
  whenPhase Phase.cMins s (.next { s with min := s.decimatedResult, cst := 2, seq := Phase.cDly2 })

/-- C_DLY2 (R179): a delay phase. -/
def execCDly2 (s : State) : Result := whenPhase Phase.cDly2 s (hold s)

/-- C_MAX0 (R180): prompt for the maximum, or skip step 6. -/
def execCMax0 (s : State) : Result :=
  whenPhase Phase.cMax0 s
    (.next (if isAwaitingMax s.cst then { s with disp := dispenc Config.maxPromptLevel, seq := Phase.cMaxw }
      else s.goto Phase.cChk))

/-- C_MAXW (R181): block until the button is pressed. -/
def execCMaxw (s : State) : Result :=
  whenPhase Phase.cMaxw s (if s.pressed then .next (s.goto Phase.cMaxd) else hold s)

/-- C_MAXD (R182): a delay phase. -/
def execCMaxd (s : State) : Result := whenPhase Phase.cMaxd s (hold s)

/-- C_MAXS (R183): acquire the maximum. -/
def execCMaxs (s : State) : Result :=
  whenPhase Phase.cMaxs s (.next { s with max := s.decimatedResult, cst := 0, seq := Phase.cChk })

/-- C_CHK (R184): the defensive clamp. -/
def execCChk (s : State) : Result :=
  whenPhase Phase.cChk s (.next { s with cst := if isOutOfRange s.cst then 0 else s.cst, seq := Phase.cDly3 })

/-- C_DLY3 (R185): a delay phase. -/
def execCDly3 (s : State) : Result := whenPhase Phase.cDly3 s (hold s)

/-- C_DONE (R186): the indicator off, polls on, back to the Main Loop. -/
def execCDone (s : State) : Result :=
  whenPhase Phase.cDone s (.next { s with ind := false, pen := true, seq := Phase.mClr })

end Sys2Proof.Machine
end

