-- ==== Sys2Proof/Machine/Filter.lean ====
section
/-! DEFINITION. The Decimating Filter (40_filter.md): SAMPLE. -/

namespace Sys2Proof.Machine

/-- The mean of a window by a right shift of `k`: bits [k+15:k] of the sum (R111, R112). -/
def meanByShift (k : Nat) (sum : Acc) : Data := trunc 16 (sum >>> k)

/-- The mean by integer division, for a factor that need not be a power of two (R115). -/
def meanByDivision (factor : Nat) (sum : Acc) : Data := BitVec.ofNat 16 (uval sum / factor)

/-- One intake of the filter with DECIMATION_FACTOR 2^k as an argument (R111, R115): add, decrement, and at zero publish,
clear and reload, all in one step (R65). -/
def filterIntake (k : Nat) (d : RawSample) (s : State) : State :=
  let sum := s.acc + sampleOperand d
  let cnt' := s.cnt - 1
  if countReachesZero cnt' then
    { s with res := meanByShift k sum, acc := 0, cnt := BitVec.ofNat 16 (2 ^ k) }
  else
    { s with acc := sum, cnt := cnt' }

/-- The same intake for a factor that is not a power of two: the shift becomes a division (R115). -/
def filterIntakeDiv (factor : Nat) (d : RawSample) (s : State) : State :=
  let sum := s.acc + sampleOperand d
  let cnt' := s.cnt - 1
  if countReachesZero cnt' then
    { s with res := meanByDivision factor sum, acc := 0, cnt := BitVec.ofNat 16 factor }
  else
    { s with acc := sum, cnt := cnt' }

/-- SAMPLE d (R111): taken when SEN = 1, dropped when SEN = 0 (R205). -/
def execSample (d : RawSample) (s : State) : Result :=
  whenEnabled s.sen s (filterIntake Config.log2Df d s)

end Sys2Proof.Machine
end

