-- ==== Sys2Proof/Machine/Inputs.lean ====
section
/-! DEFINITION. The operations of the environment and the poll agent (42_inputs.md): POLL, BTN, DLYDONE. -/

namespace Sys2Proof.Machine

/-- POLL (R141): taken when PEN = 1, dropped when PEN = 0 (R205). -/
def execPoll (s : State) : Result :=
  whenEnabled s.pen s { s with req := reqAfterPoll s }

/-- BTN(v) (R143): the environment's level; no register changes. -/
def execBtn (v : Bool) (s : State) : Result := .next { s with btn := v }

/-- DLYDONE (R146): ends a delay phase; anywhere else it is ignored and not remembered. -/
def execDlydone (s : State) : Result := .next (s.goto (afterDelay s.seq))

end Sys2Proof.Machine
end

