-- ==== Sys2Proof/Machine/MainLoop.lean ====
section
/-! DEFINITION. The Main Loop (43_main_loop.md): M_SUSP, M_READ, M_SHOW, M_REQ, M_CLR, M_RESM, M_WAIT. -/

namespace Sys2Proof.Machine

/-- M_SUSP (R150). -/
def execMSusp (s : State) : Result :=
  whenPhase Phase.mSusp s (.next { s with sen := false, seq := Phase.mRead })

/-- M_READ (R151). -/
def execMRead (s : State) : Result :=
  whenPhase Phase.mRead s (.next { s with meas := s.decimatedResult, seq := Phase.mShow })

/-- The effect of M_SHOW (R153): the code of the scaled level, or F_DIVZERO with nothing written (R125, R202). -/
def showLevel (s : State) : Result :=
  match scale s.measured s.rangeMin s.rangeMax with
  | .ok level => .next { s with disp := dispenc level, seq := Phase.mReq }
  | .error f => raise f

/-- M_SHOW (R153). -/
def execMShow (s : State) : Result := whenPhase Phase.mShow s (showLevel s)

/-- The effect of M_REQ when REQ = 1 (R154): advance the counter; past the threshold call the calibration routine. -/
def observeRequest (s : State) : State :=
  let rqc' := s.rqc + 1
  if pastArming rqc' then
    { s with rqc := rqc', cst := if isIdle s.cst then 1 else s.cst, seq := Phase.cInd }
  else
    { s with rqc := rqc', seq := Phase.mClr }

/-- M_REQ (R154). -/
def execMReq (s : State) : Result :=
  whenPhase Phase.mReq s (.next (if s.req then observeRequest s else s.goto Phase.mResm))

/-- M_CLR (R156). -/
def execMClr (s : State) : Result :=
  whenPhase Phase.mClr s
    (.next { s with req := false, rqc := if pastArming s.rqc then 0 else s.rqc, seq := Phase.mResm })

/-- M_RESM (R157). -/
def execMResm (s : State) : Result :=
  whenPhase Phase.mResm s (.next { s with sen := true, seq := Phase.mWait })

/-- M_WAIT (R158): a delay phase, the sequencer holds; DLYDONE leaves it. -/
def execMWait (s : State) : Result := whenPhase Phase.mWait s (hold s)

end Sys2Proof.Machine
end

