-- ==== Sys2Proof/Machine/Reset.lean ====
section
/-! DEFINITION. RESET (70_reset_and_hazards.md R230). -/

namespace Sys2Proof.Machine

/-- RESET (R230): always enabled. -/
def execReset (s : State) : Result := .next s.afterReset

end Sys2Proof.Machine
end

