-- ==== Sys2Proof/Machine/Dispatch.lean ====
section
/-! DEFINITION. The dispatch: one arm per operation. -/

namespace Sys2Proof.Machine

def exec (i : Instr) (s : State) : Host.Outcome State Fault Refusal :=
  match i with
  -- Main Loop
  | .mSusp => Sys2Proof.Machine.execMSusp s
  | .mRead => Sys2Proof.Machine.execMRead s
  | .mShow => Sys2Proof.Machine.execMShow s
  | .mReq => Sys2Proof.Machine.execMReq s
  | .mClr => Sys2Proof.Machine.execMClr s
  | .mResm => Sys2Proof.Machine.execMResm s
  | .mWait => Sys2Proof.Machine.execMWait s
  -- calibration routine
  | .cInd => Sys2Proof.Machine.execCInd s
  | .cMask => Sys2Proof.Machine.execCMask s
  | .cDly1 => Sys2Proof.Machine.execCDly1 s
  | .cMin0 => Sys2Proof.Machine.execCMin0 s
  | .cMinw => Sys2Proof.Machine.execCMinw s
  | .cMind => Sys2Proof.Machine.execCMind s
  | .cMins => Sys2Proof.Machine.execCMins s
  | .cDly2 => Sys2Proof.Machine.execCDly2 s
  | .cMax0 => Sys2Proof.Machine.execCMax0 s
  | .cMaxw => Sys2Proof.Machine.execCMaxw s
  | .cMaxd => Sys2Proof.Machine.execCMaxd s
  | .cMaxs => Sys2Proof.Machine.execCMaxs s
  | .cChk => Sys2Proof.Machine.execCChk s
  | .cDly3 => Sys2Proof.Machine.execCDly3 s
  | .cDone => Sys2Proof.Machine.execCDone s
  -- filter, poll agent, environment
  | .sample d => Sys2Proof.Machine.execSample d s
  | .poll => Sys2Proof.Machine.execPoll s
  | .dlydone => Sys2Proof.Machine.execDlydone s
  | .reset => Sys2Proof.Machine.execReset s
  | .btn v => Sys2Proof.Machine.execBtn v s

end Sys2Proof.Machine
end

