-- ==== Sys2Proof/Machine/Fetch.lean ====
section
/-! DEFINITION. What happens next (20_memory.md R67, R73; 30_encoding.md R86, R87; 60_exceptions.md R207): the choice of
one operation from the moments still to come. There is no instruction fetch (R71). -/

namespace Sys2Proof.Machine

/-- One of the things that occur together in a moment. -/
inductive Source where
  | strobe (t : Strobe)
  | level (v : Bool)
  | sequencer
  deriving DecidableEq, Repr

/-- Everything in a moment but RESET. -/
def Moment.beforeReset (m : Moment) : List Source :=
  ((strobesOf m.strobes).filter (· ≠ .rst)).map .strobe ++
    (match m.level with | some v => [.level v] | none => []) ++
    (if m.seqTurn then [.sequencer] else [])

/-- What may be performed next in a moment: anything but RESET, in an open order; RESET last (R86, R207). -/
def Moment.candidates (m : Moment) : List Source :=
  match m.beforeReset with
  | [] => if Strobe.rst ∈ strobesOf m.strobes then [.strobe .rst] else []
  | src :: more => src :: more

/-- The moment without one of its sources. -/
def Moment.without (m : Moment) : Source → Moment
  | .strobe t => { m with strobes := m.strobes &&& ~~~t.mask }
  | .level _ => { m with level := none }
  | .sequencer => { m with seqTurn := false }

/-- What is still to come once one source of the first moment has been performed. -/
def Moment.after (m : Moment) (src : Source) (rest : List Moment) : List Moment :=
  match (m.without src).candidates with
  | [] => rest
  | _ :: _ => m.without src :: rest

/-- The selector that a source presents (R80): the sequencer's is the value of SEQ. -/
def Source.selector (src : Source) (m : Moment) (s : State) : Selector :=
  match src with
  | .strobe t => .evt t m.data
  | .level v => .lvl v
  | .sequencer => .seq s.seq

/-- The next thing to do: nothing (an empty moment, R86 "no event"), or one operation. -/
inductive Fetch where
  | nothing (s' : State)
  | run (sel : Selector) (s' : State)
  deriving DecidableEq, Repr

/-- The index that the free value gives for the `k`-th choice among `n` candidates (log entry 3). -/
def openChoice (k n : Nat) : Nat := Config.openOrder k % n

/-- The next operation: of the first moment, one candidate, the only one or one that the free value picks; with no
moment waiting, the sequencer's operation (log entry 2). -/
def fetch (s : State) : Fetch :=
  match s.inbox with
  | [] => .run (.seq s.seq) s
  | m :: rest =>
    match m.candidates with
    | [] => .nothing { s with inbox := rest }
    | [src] => .run (src.selector m s) { s with inbox := m.after src rest }
    | src :: next :: more =>
      let chosen := (src :: next :: more).getD (openChoice s.draws (more.length + 2)) src
      .run (chosen.selector m s) { s with inbox := m.after chosen rest, draws := s.draws + 1 }

/-- The moment in which only the sequencer takes a turn. -/
def Moment.turn : Moment := { strobes := 0, data := 0, level := none, seqTurn := true }

/-- The moment in which one strobe is asserted. -/
def Moment.ofStrobe (t : Strobe) (d : RawSample) : Moment := { strobes := t.mask, data := d, level := none, seqTurn := false }

/-- The moment in which `btn` takes a value. -/
def Moment.ofLevel (v : Bool) : Moment := { strobes := 0, data := 0, level := some v, seqTurn := false }

/-- The moment that presents a selector. -/
def Moment.ofSelector : Selector → Moment
  | .seq _ => .turn
  | .evt t d => .ofStrobe t d
  | .lvl v => .ofLevel v

/-- The state in which the next operation is the one this selector selects: a phase code goes into SEQ. -/
def State.presenting (s : State) (sel : Selector) : State :=
  match sel with
  | .seq code => { s with seq := code, inbox := .turn :: s.inbox }
  | .evt t d => { s with inbox := .ofStrobe t d :: s.inbox }
  | .lvl v => { s with inbox := .ofLevel v :: s.inbox }

end Sys2Proof.Machine
end

