-- ==== Sys2Proof/Machine/Step.lean ====
section
/-! DEFINITION. One step of LSCORE: one atomic operation of one agent (20_memory.md R65, R67). -/

namespace Sys2Proof.Machine

/-- Decode a selector and perform its operation (30_encoding.md R87). -/
def runSelector (sel : Selector) (s : State) : Host.Outcome State Fault Refusal :=
  match decode sel with
  | .ok i => exec i s
  | .error e => decodeFault e

/-- One step. -/
def step (s : State) : Host.Outcome State Fault Refusal :=
  match fetch s with
  | .nothing s' => .next s'
  | .run sel s' => runSelector sel s'

/-- The state whose next step runs the operation of a word of opcode_table.json (log entries 5 and 7); a word that stands for
no selector changes nothing. -/
def State.withFetchWord (s : State) (nbits w : Nat) : State :=
  match tableSelector nbits w with
  | some sel => s.presenting sel
  | none => s

end Sys2Proof.Machine
end

