-- ==== Sys2Proof/Machine/Outputs.lean ====
section
/-! DEFINITION. The output ports (10_state.md R40, R44 to R46, R48): functions of the state. -/

namespace Sys2Proof.Machine

/-- What the environment can observe (R48). -/
structure Outputs where
  disp : DispCode
  ind : Bool
  dlyReq : Bool
  dlyMs : BitVec 16
  deriving DecidableEq, Repr

/-- The four outputs (R44, R45, R46, R89). -/
def State.outputs (s : State) : Outputs where
  disp := s.disp
  ind := s.ind
  dlyReq := isDelayPhase s.seq
  dlyMs := BitVec.ofNat 16 (delayMs s.seq)

end Sys2Proof.Machine
end

