-- ==== Sys2Proof/Machine/Trace.lean ====
section
/-! DEFINITION. Sequences of operations, and traces with their errors and faulted runs (30_encoding.md R92, R93;
60_exceptions.md R200). -/

namespace Sys2Proof.Machine

/-- The operations of a list, one after another, up to the first fault. -/
def execAll : List Instr → State → Result
  | [], s => .next s
  | i :: more, s =>
    match exec i s with
    | .next t => execAll more t
    | .fault f => .fault f
    | .refused r => .refused r

/-- The payload of a SAMPLE. -/
def samplePayload? (i : Instr) : Option RawSample :=
  match i with
  | .sample d => some d
  | _ => none

/-- The payloads of the samples in a list of operations, in order. -/
def payloads (ops : List Instr) : List RawSample := ops.filterMap samplePayload?

/-- A list of operations with its samples left out. -/
def withoutSamples (ops : List Instr) : List Instr := ops.filter fun i => (samplePayload? i).isNone

/-- `n` operations of the sequencer with nothing else between them. -/
def seqRun : Nat → State → Result
  | 0, s => .next s
  | n + 1, s =>
    match runSelector (.seq s.seq) s with
    | .next t => seqRun n t
    | .fault f => .fault f
    | .refused r => .refused r

/-- Where a trace stands: running, faulted with the state the fault left (R200, D32), or in error (R92), which is where it
stays (DESIGN CHOICE, log entry 13). -/
inductive RunStatus where
  | running (s : State)
  | faulted (f : Fault) (s : State)
  | traceError (s : State)
  deriving DecidableEq, Repr

/-- What an operation performed in state `s` makes of a run. -/
def RunStatus.ofResult (s : State) : Result → RunStatus
  | .next t => .running t
  | .fault f => .faulted f s
  | .refused _ => .traceError s

/-- A STEP line: an error if the sequencer holds (R92). -/
def stepLine (s : State) : RunStatus :=
  if holds s then .traceError s else .ofResult s (runSelector (.seq s.seq) s)

/-- One line (R92). A faulted run performs no operation of any agent until RESET (R200, R230). DESIGN CHOICE, log entry
13: a failed assertion (`STEP name` where SEQ does not select `name`, an unassigned code included) is an error in the trace
and no fault, and no later line, RESET included, ends an error. -/
def performLine (l : TraceLine) : RunStatus → RunStatus
  | .running s =>
    match l with
    | .event i => if i.isSequencer then .traceError s else .ofResult s (exec i s)
    | .step => stepLine s
    | .stepNamed i => if decodeSeq s.seq = some i then stepLine s else .traceError s
  | .faulted f s => if l = .event .reset then .ofResult s (exec .reset s) else .faulted f s
  | .traceError s => .traceError s

/-- A line performed `n` times. -/
def repeatLine (l : TraceLine) : Nat → RunStatus → RunStatus
  | 0, r => r
  | n + 1, r => repeatLine l n (performLine l r)

/-- RUN: STEP until the sequencer holds (R93), in at most `fuel` operations; R159 says that a few suffice. An operation that
faults ends it, and the run is faulted (R200). -/
def runUntilHold : Nat → RunStatus → RunStatus
  | 0, r => r
  | fuel + 1, .running s => if holds s then .running s else runUntilHold fuel (stepLine s)
  | _ + 1, .faulted f s => .faulted f s
  | _ + 1, .traceError s => .traceError s

/-- The assertion at the end of RUN k: the sequencer holds; if it does not, the trace is in error. DESIGN CHOICE, log entry
13; there too: RUN k in which an operation faults, or that begins in a faulted run, is faulted and not in error, so the
assertion on the count is dropped and a RESET continues the run. -/
def assertHold : RunStatus → RunStatus
  | .running s => if holds s then .running s else .traceError s
  | .faulted f s => .faulted f s
  | .traceError s => .traceError s

/-- One line or pseudo-line (R92, R93). RUN's fuel is the number of phase codes. -/
def performItem (item : TraceItem) (r : RunStatus) : RunStatus :=
  match item with
  | .line l => performLine l r
  | .sampleTimes d n => repeatLine (.event (.sample d)) n r
  | .window d => repeatLine (.event (.sample d)) Config.df r
  | .run => runUntilHold 32 r
  | .runExactly k => assertHold (repeatLine .step k r)

/-- A whole trace from a start state. -/
def runTrace (items : List TraceItem) (s : State) : RunStatus :=
  items.foldl (fun r item => performItem item r) (.running s)

/-- The moment that a trace line stands for in the model's list of what happens next. -/
def momentOfLine : TraceLine → Moment
  | .event i => .ofSelector (encode i)
  | .step => .turn
  | .stepNamed _ => .turn

end Sys2Proof.Machine
end

