-- ==== Sys2Proof/Safety.lean ====
section
/-! DEFINITION. What claims about LSCORE speak of: phases in a range, the invariant of 70_reset_and_hazards.md R236, reachable
states (00_scope.md R17), the quiescent point (60_exceptions.md R217), and safe runs (R200). -/

namespace Sys2Proof.Machine

/-- SEQ lies in `lo .. hi`. -/
abbrev State.phaseIn (s : State) (lo hi : Nat) : Prop := lo ≤ uval s.seq ∧ uval s.seq ≤ hi

/-- The invariant of reachable states: the clauses (a) to (k) of R236, and three clauses that other rules give and the
induction needs. What (j) says of SEQ = 0x05 depends on the run: it is a statement about `ReachableSince`. -/
structure Inv (s : State) : Prop where
  /-- R236 (a). -/
  cnt : 1 ≤ uval s.cnt ∧ uval s.cnt ≤ 256
  /-- R236 (b). -/
  acc : uval s.acc ≤ (256 - uval s.cnt) * 4095
  /-- R236 (c), RES. -/
  res : 0 ≤ sval s.res ∧ sval s.res ≤ 4095
  /-- R236 (c), MEAS. -/
  meas : 0 ≤ sval s.meas ∧ sval s.meas ≤ 4095
  /-- R236 (d), MIN. -/
  min : 0 ≤ sval s.min ∧ sval s.min ≤ 4095
  /-- R236 (d), MAX. -/
  max : 0 ≤ sval s.max ∧ sval s.max ≤ 4095
  /-- R236 (e). -/
  cst : uval s.cst ≤ 2 ∧ (s.cst = 1 → s.phaseIn 0x08 0x0E) ∧ (s.cst = 2 → s.phaseIn 0x0F 0x13)
  /-- R236 (f). -/
  rqc : uval s.rqc ≤ 2 ∧ (s.rqc = 2 → s.phaseIn 0x08 0x16 ∨ s.seq = 0x04)
  /-- R236 (g). -/
  seq : isAssigned s.seq = true
  /-- R236 (h). -/
  ind : s.ind = true ↔ s.phaseIn 0x09 0x16
  /-- R236 (i). -/
  pen : s.pen = false ↔ s.phaseIn 0x0A 0x16
  /-- R236 (j), SEN = 0. -/
  masked : s.seq = 0x01 ∨ s.seq = 0x02 ∨ s.seq = 0x03 ∨ s.seq = 0x08 ∨ s.seq = 0x09 ∨ (s.seq = 0x04 ∧ s.rqc = 1) →
    s.sen = false
  /-- R236 (j), SEN = 1. -/
  unmasked : s.seq = 0x00 ∨ s.seq = 0x06 ∨ s.phaseIn 0x0A 0x16 ∨ (s.seq = 0x04 ∧ s.rqc = 2) → s.sen = true
  /-- R236 (j), SEQ = 0x05, as far as the state shows it: with RQC = 1 no run has just ended. -/
  resume : s.seq = 0x05 → s.rqc = 1 → s.sen = false
  /-- R236 (k). -/
  disp : uval s.disp ≤ 9
  /-- R188: CST = 1 from M_REQ to C_MINS, CST = 2 from C_MINS to C_MAXS. -/
  run : (s.phaseIn 0x08 0x0E → s.cst = 1) ∧ (s.phaseIn 0x0F 0x13 → s.cst = 2)
  /-- R154, R156: the counter during a run is 2, and at M_CLR it is not 0. -/
  counter : (s.phaseIn 0x08 0x16 → s.rqc = 2) ∧ (s.seq = 0x04 → s.rqc ≠ 0)
  /-- R172 (b): REQ stays 1 from M_REQ's call to M_CLR. -/
  request : s.phaseIn 0x08 0x16 ∨ s.seq = 0x04 → s.req = true

/-- R236 (b), the sum inside SAMPLE, and R236's last sentence: no modular operation wraps and no width is exceeded. The
modular operations are those of SAMPLE (R111) and M_REQ (R154). -/
structure NoWrap (s : State) : Prop where
  /-- `ACC +_32 zext_32(d)` is the exact sum, at most 1048320. -/
  sum : ∀ d : RawSample, uval (s.acc + sampleOperand d) = uval s.acc + uval d ∧ uval s.acc + uval d ≤ 1048320
  /-- `CNT -_16 1` does not pass below zero. -/
  count : uval (s.cnt - 1) + 1 = uval s.cnt
  /-- `trunc_16(sum >> 8)` loses no bit. -/
  mean : ∀ d : RawSample,
    uval (meanByShift Config.log2Df (s.acc + sampleOperand d)) = uval (s.acc + sampleOperand d) / Config.df
  /-- `RQC +_8 1` does not pass 255. -/
  requests : uval (s.rqc + 1) = uval s.rqc + 1

/-- Reachable states (R17, R39): from the reset state with any button level, any moments to come and any count of free
choices, by steps. -/
inductive Reachable : State → Prop where
  | start (level : Bool) (moments : List Moment) (k : Nat) :
      Reachable { State.reset with btn := level, inbox := moments, draws := k }
  | step {s t : State} (h : Reachable s) (ht : step s = .next t) : Reachable t

/-- Whether a calibration run has ended in the iteration, after a step from `s` to `t`: C_DONE's transfer to M_CLR ends one
(R186), and at M_SUSP a new iteration begins (R159, R230). -/
def runEnded (s t : State) (ended : Bool) : Bool :=
  if t.seq = Phase.mSusp then false else if s.seq = Phase.cDone ∧ t.seq = Phase.mClr then true else ended

/-- Reachable states with the one fact of their run that R236 (j) speaks of: whether a calibration run has just ended, that
is, in the same iteration. -/
inductive ReachableSince : Bool → State → Prop where
  | start (level : Bool) (moments : List Moment) (k : Nat) :
      ReachableSince false { State.reset with btn := level, inbox := moments, draws := k }
  | step {ended : Bool} {s t : State} (h : ReachableSince ended s) (ht : step s = .next t) :
      ReachableSince (runEnded s t ended) t

/-- The quiescent point between two iterations (R217): the sequencer holds in M_WAIT and nothing is waiting. -/
def Quiescent (s : State) : Prop := s.seq = Phase.mWait ∧ s.inbox = []

/-- A run of `k` steps without a fault: a faulted state is never an acceptable one (R200). -/
def SafeRun (k : Nat) (s : State) : Prop := ∃ t, Sys2Proof.core.run k s = .next t

/-- The Scaler's precondition (R125): M_SHOW does not fault. -/
def RangeIsProper (s : State) : Prop := s.max ≠ s.min

/-- The state of an outcome, if it is a next state; for stating tests. -/
def outcomeState : Result → Option State
  | .next t => some t
  | .fault _ => none
  | .refused _ => none

/-- The fault of an outcome; for stating tests. -/
def outcomeFault : Result → Option Fault
  | .next _ => none
  | .fault f => some f
  | .refused _ => none

end Sys2Proof.Machine
end

