-- ==== Sys2Proof/Certificates/Slice0/Obligations.lean ====
section
/-! DEFINITION. The statements for the provers, in the order of OBLIGATIONS.json. A statement that an operation answers
`next { s with … }` says its whole frame: every register it does not name, the button level, and the moments to come are as
before. LSCORE has no memory (20_memory.md R60). -/

open Sys2Proof Sys2Proof.Machine

/-! ### Encoding -/

/-- R80, R85, R86: decoding the selector of a well-formed operation gives the operation back, with its operand. -/
def Obligations.DecodeOfEncodeIsIdentity : Prop :=
  ∀ i : Instr, i.wf = true → decode (encode i) = .ok i

/-- R85, R86: some words written out from the spec's tables. -/
def Obligations.WordsOfTheSpecDecode : Prop :=
  decode (.seq 0b00000) = .ok .mSusp ∧ decode (.seq 0b00011) = .ok .mReq ∧ decode (.seq 0b01110) = .ok .cMins ∧
    decode (.seq 0b10011) = .ok .cMaxs ∧ decode (.seq 0b10110) = .ok .cDone ∧
    strobesOf 0b0001 = [.smpTrig] ∧ strobesOf 0b0010 = [.pollTrig] ∧ strobesOf 0b0100 = [.dlyDone] ∧
    strobesOf 0b1000 = [.rst] ∧ decodeTraceWord 0x1FFF = some (.event (.sample 4095)) ∧
    decodeTraceWord 0x0001 = some (.event (.btn true)) ∧ decodeTraceWord 0xF000 = some .step

/-- R94: every well-formed trace line has a trace word that stands for it; STEP and STEP name share one. -/
def Obligations.TraceWordStandsForItsLine : Prop :=
  (∀ i : Instr, (TraceLine.event i).wf = true → decodeTraceWord (TraceLine.event i).word = some (.event i)) ∧
    decodeTraceWord TraceLine.step.word = some .step ∧
    ∀ i : Instr, decodeTraceWord (TraceLine.stepNamed i).word = some .step

/-- R94, the other direction: a trace word that stands for a line is that line's word, so no bit is dropped. -/
def Obligations.TraceLineHasOneWord : Prop :=
  ∀ (w : TraceWord) (l : TraceLine), decodeTraceWord w = some l → l.word = w ∧ l.wf = true

/-- R203: the ten unassigned codes, and F_SEQ with the code, of fault code 2. -/
def Obligations.UnassignedPhaseFaults : Prop :=
  ∀ s : State, (s.seq = 0x07 ∨ 0x17 ≤ uval s.seq) →
    runSelector (.seq s.seq) s = .fault (.seq s.seq) ∧ (Fault.seq s.seq).code = 2

/-! ### The filter, the poll, the button, the delays, reset -/

/-- R111: SAMPLE, taken without and with a publication, and dropped. -/
def Obligations.SampleAccumulatesAndPublishes : Prop :=
  ∀ (d : RawSample) (s : State),
    encode (.sample d) = .evt .smpTrig d ∧ Strobe.mask .smpTrig = 0b0001 ∧
    (s.sen = true → s.cnt - 1 ≠ 0 →
      exec (.sample d) s = .next { s with acc := s.acc + d.setWidth 32, cnt := s.cnt - 1 }) ∧
    (s.sen = true → s.cnt - 1 = 0 →
      exec (.sample d) s =
        .next { s with res := (s.acc + d.setWidth 32).extractLsb' 8 16, acc := 0, cnt := 256 }) ∧
    (s.sen = false → exec (.sample d) s = .next s)

/-- R112, R115: the shift by k is the integer division by 2^k, for every sum and every k that R9 allows. -/
def Obligations.ShiftIsIntegerDivision : Prop :=
  ∀ (k : Nat) (sum : Acc), k ≤ 15 →
    meanByShift k sum = meanByDivision (2 ^ k) sum ∧ (uval sum < 65536 * 2 ^ k → uval (meanByShift k sum) = uval sum / 2 ^ k)

/-- R205: a trigger whose enable is 0 is dropped and no state changes. -/
def Obligations.MaskedTriggersAreDropped : Prop :=
  ∀ (d : RawSample) (s : State),
    (s.sen = false → exec (.sample d) s = .next s) ∧ (s.pen = false → exec .poll s = .next s)

/-- R141: POLL. -/
def Obligations.PollSetsRequestWhenPressed : Prop :=
  encode .poll = .evt .pollTrig 0 ∧ Strobe.mask .pollTrig = 0b0010 ∧
    ∀ s : State,
      (s.pen = true → s.btn = true → exec .poll s = .next { s with req := true }) ∧
      (s.pen = true → s.btn = false → exec .poll s = .next s) ∧
      (s.pen = false → exec .poll s = .next s)

/-- R143: BTN(v) changes the environment's level and no register. -/
def Obligations.ButtonEventChangesOnlyTheLevel : Prop :=
  ∀ (v : Bool) (s : State), encode (.btn v) = .lvl v ∧ exec (.btn v) s = .next { s with btn := v }

/-- R146: DLYDONE moves each delay phase to its successor and does nothing elsewhere. -/
def Obligations.DelayDoneEndsTheDelayPhase : Prop :=
  encode .dlydone = .evt .dlyDone 0 ∧ Strobe.mask .dlyDone = 0b0100 ∧
    ∀ s : State,
      (s.seq = 0x06 → exec .dlydone s = .next { s with seq := 0x00 }) ∧
      (s.seq = 0x0A → exec .dlydone s = .next { s with seq := 0x0B }) ∧
      (s.seq = 0x0D → exec .dlydone s = .next { s with seq := 0x0E }) ∧
      (s.seq = 0x0F → exec .dlydone s = .next { s with seq := 0x10 }) ∧
      (s.seq = 0x12 → exec .dlydone s = .next { s with seq := 0x13 }) ∧
      (s.seq = 0x15 → exec .dlydone s = .next { s with seq := 0x16 }) ∧
      (s.seq ≠ 0x06 → s.seq ≠ 0x0A → s.seq ≠ 0x0D → s.seq ≠ 0x0F → s.seq ≠ 0x12 → s.seq ≠ 0x15 →
        exec .dlydone s = .next s)

/-- R230, R231: RESET from any state; the button level is kept (case d). That the moments to come are kept too is the
model's choice (log entry 5). -/
def Obligations.ResetWritesEveryRegister : Prop :=
  encode .reset = .evt .rst 0 ∧ Strobe.mask .rst = 0b1000 ∧
    ∀ s : State, exec .reset s = .next
      { acc := 0, cnt := 256, res := 0, min := 610, max := 4095, meas := 0, seq := 0x00, req := false, rqc := 0, cst := 0,
        sen := true, pen := true, ind := false, disp := 0b0000, btn := s.btn, inbox := s.inbox, draws := s.draws }

/-- R38, R231: the reset state's registers and outputs, each at the value the spec gives. -/
def Obligations.ResetStateHasTheSpecsValues : Prop :=
  let s := State.reset
  s.acc = 0 ∧ s.cnt = 256 ∧ s.res = 0 ∧ s.min = 610 ∧ s.max = 4095 ∧ s.meas = 0 ∧ s.seq = 0x00 ∧ s.req = false ∧
    s.rqc = 0 ∧ s.cst = 0 ∧ s.sen = true ∧ s.pen = true ∧ s.ind = false ∧ s.disp = 0b0000 ∧
    s.outputs = { disp := 0b0000, ind := false, dlyReq := false, dlyMs := 0 }

/-! ### The Main Loop -/

/-- R150, R157: M_SUSP masks the sample trigger, M_RESM enables it. -/
def Obligations.SuspendAndResumeSampling : Prop :=
  decode (.seq 0x00) = .ok .mSusp ∧ decode (.seq 0x05) = .ok .mResm ∧
    ∀ s : State,
      (s.seq = 0x00 → exec .mSusp s = .next { s with sen := false, seq := 0x01 }) ∧
      (s.seq = 0x05 → exec .mResm s = .next { s with sen := true, seq := 0x06 })

/-- R151: M_READ copies RES to MEAS. -/
def Obligations.ReadCopiesTheResult : Prop :=
  decode (.seq 0x01) = .ok .mRead ∧
    ∀ s : State, s.seq = 0x01 → exec .mRead s = .next { s with meas := s.res, seq := 0x02 }

/-- R153 with R122 and R129 written out: M_SHOW displays the scaled level, or faults when MAX = MIN. -/
def Obligations.ShowDisplaysTheScaledLevel : Prop :=
  decode (.seq 0x02) = .ok .mShow ∧
    ∀ s : State, s.seq = 0x02 →
      (s.max.toInt = s.min.toInt → exec .mShow s = .fault .divZero) ∧
      (s.max.toInt ≠ s.min.toInt →
        let q : Int := ⌊((9 * (min s.meas.toInt s.max.toInt - s.min.toInt) : Int) : ℚ) / ((s.max.toInt - s.min.toInt : Int) : ℚ)⌋
        let level : Int := max q 0
        exec .mShow s =
          .next { s with disp := if level ≤ 9 then BitVec.ofInt 4 level else 0b1000, seq := 0x03 })

/-- R154: M_REQ without a request, arming, and calling the routine. -/
def Obligations.RequestArmsThenCalls : Prop :=
  decode (.seq 0x03) = .ok .mReq ∧
    ∀ s : State, s.seq = 0x03 →
      (s.req = false → exec .mReq s = .next { s with seq := 0x05 }) ∧
      (s.req = true → ¬ 1 < (s.rqc + 1).toNat → exec .mReq s = .next { s with rqc := s.rqc + 1, seq := 0x04 }) ∧
      (s.req = true → 1 < (s.rqc + 1).toNat →
        exec .mReq s = .next { s with rqc := s.rqc + 1, cst := if s.cst = 0 then 1 else s.cst, seq := 0x08 })

/-- R156: M_CLR consumes the request and disarms after a run. -/
def Obligations.ClearConsumesTheRequest : Prop :=
  decode (.seq 0x04) = .ok .mClr ∧
    ∀ s : State, s.seq = 0x04 →
      (1 < s.rqc.toNat → exec .mClr s = .next { s with req := false, rqc := 0, seq := 0x05 }) ∧
      (¬ 1 < s.rqc.toNat → exec .mClr s = .next { s with req := false, seq := 0x05 })

/-- R145, R158, R173, R176, R179, R182, R185, R212: in a delay phase the sequencer's operation holds: no state changes, and the
phase's delay is requested. That a hold answers the unchanged state is log entry 1. -/
def Obligations.DelayPhasesHoldAndRequest : Prop :=
  ∀ s : State,
    (s.seq = 0x06 → exec .mWait s = .next s ∧ s.outputs.dlyReq = true ∧ s.outputs.dlyMs = 50) ∧
    (s.seq = 0x0A → exec .cDly1 s = .next s ∧ s.outputs.dlyReq = true ∧ s.outputs.dlyMs = 1000) ∧
    (s.seq = 0x0D → exec .cMind s = .next s ∧ s.outputs.dlyReq = true ∧ s.outputs.dlyMs = 500) ∧
    (s.seq = 0x0F → exec .cDly2 s = .next s ∧ s.outputs.dlyReq = true ∧ s.outputs.dlyMs = 1000) ∧
    (s.seq = 0x12 → exec .cMaxd s = .next s ∧ s.outputs.dlyReq = true ∧ s.outputs.dlyMs = 500) ∧
    (s.seq = 0x15 → exec .cDly3 s = .next s ∧ s.outputs.dlyReq = true ∧ s.outputs.dlyMs = 1000)

/-- R44, R45, R46, R89: the four outputs as functions of the state. -/
def Obligations.OutputsFollowTheState : Prop :=
  ∀ s : State, s.outputs.disp = s.disp ∧ s.outputs.ind = s.ind ∧
    (s.outputs.dlyReq = true ↔ s.seq = 0x06 ∨ s.seq = 0x0A ∨ s.seq = 0x0D ∨ s.seq = 0x0F ∨ s.seq = 0x12 ∨ s.seq = 0x15) ∧
    (s.seq = 0x06 → s.outputs.dlyMs = 0x0032) ∧
    (s.seq = 0x0A ∨ s.seq = 0x0F ∨ s.seq = 0x15 → s.outputs.dlyMs = 0x03E8) ∧
    (s.seq = 0x0D ∨ s.seq = 0x12 → s.outputs.dlyMs = 0x01F4) ∧
    (s.outputs.dlyReq = false → s.outputs.dlyMs = 0x0000)

/-! ### The calibration routine -/

/-- R171, R172, R186: indicator on, polls masked and samples enabled, indicator off and polls on. -/
def Obligations.CalibrationEntersAndLeaves : Prop :=
  decode (.seq 0x08) = .ok .cInd ∧ decode (.seq 0x09) = .ok .cMask ∧ decode (.seq 0x16) = .ok .cDone ∧
    ∀ s : State,
      (s.seq = 0x08 → exec .cInd s = .next { s with ind := true, seq := 0x09 }) ∧
      (s.seq = 0x09 → exec .cMask s = .next { s with pen := false, sen := true, seq := 0x0A }) ∧
      (s.seq = 0x16 → exec .cDone s = .next { s with ind := false, pen := true, seq := 0x04 })

/-- R174, R180: the prompts, or the skips. -/
def Obligations.PromptsAreShownOrSkipped : Prop :=
  decode (.seq 0x0B) = .ok .cMin0 ∧ decode (.seq 0x10) = .ok .cMax0 ∧
    ∀ s : State,
      (s.seq = 0x0B → s.cst = 1 → exec .cMin0 s = .next { s with disp := 0b0000, seq := 0x0C }) ∧
      (s.seq = 0x0B → s.cst ≠ 1 → exec .cMin0 s = .next { s with seq := 0x0F }) ∧
      (s.seq = 0x10 → s.cst = 2 → exec .cMax0 s = .next { s with disp := 0b1001, seq := 0x11 }) ∧
      (s.seq = 0x10 → s.cst ≠ 2 → exec .cMax0 s = .next { s with seq := 0x14 })

/-- R175, R181: the waits pass exactly when the button is pressed. That a hold answers the unchanged state is log entry
1. -/
def Obligations.WaitsBlockUntilPressed : Prop :=
  decode (.seq 0x0C) = .ok .cMinw ∧ decode (.seq 0x11) = .ok .cMaxw ∧
    ∀ s : State,
      (s.seq = 0x0C → s.btn = true → exec .cMinw s = .next { s with seq := 0x0D }) ∧
      (s.seq = 0x0C → s.btn = false → exec .cMinw s = .next s) ∧
      (s.seq = 0x11 → s.btn = true → exec .cMaxw s = .next { s with seq := 0x12 }) ∧
      (s.seq = 0x11 → s.btn = false → exec .cMaxw s = .next s)

/-- R178, R183: the acquisitions. -/
def Obligations.CalibrationAcquiresTheRange : Prop :=
  decode (.seq 0x0E) = .ok .cMins ∧ decode (.seq 0x13) = .ok .cMaxs ∧
    ∀ s : State,
      (s.seq = 0x0E → exec .cMins s = .next { s with min := s.res, cst := 2, seq := 0x0F }) ∧
      (s.seq = 0x13 → exec .cMaxs s = .next { s with max := s.res, cst := 0, seq := 0x14 })

/-- R184: the defensive clamp acts outside the enumeration only. -/
def Obligations.OutOfRangeStateIsForcedToIdle : Prop :=
  decode (.seq 0x14) = .ok .cChk ∧
    ∀ s : State, s.seq = 0x14 →
      (2 < s.cst.toNat → exec .cChk s = .next { s with cst := 0, seq := 0x15 }) ∧
      (s.cst.toNat ≤ 2 → exec .cChk s = .next { s with seq := 0x15 })

/-- R190: the routine entered with CST = 0, 3 and 2, with no other operation between its own; with CST = 2 the button is
already pressed. The delays are three DLYDONE events and have no duration (log entry 8); what they request is
`DelayPhasesHoldAndRequest`. -/
def Obligations.RoutineEnteredOutsideAwaitingMin : Prop :=
  ∀ s : State, s.seq = 0x08 →
    ((s.cst = 0 ∨ s.cst = 3) →
      execAll [.cInd, .cMask, .dlydone, .cMin0, .dlydone, .cMax0, .cChk, .dlydone, .cDone] s =
        .next { s with sen := true, pen := true, ind := false, cst := 0, seq := 0x04 }) ∧
    (s.cst = 2 → s.btn = true →
      execAll [.cInd, .cMask, .dlydone, .cMin0, .dlydone, .cMax0, .cMaxw, .dlydone, .cMaxs, .cChk, .dlydone, .cDone] s =
        .next { s with sen := true, pen := true, ind := false, disp := 0b1001, max := s.res, cst := 0, seq := 0x04 })

/-- R243: a POLL between C_DONE and M_CLR is lost. -/
def Obligations.PollBeforeClearIsLost : Prop :=
  ∀ s : State, s.seq = 0x16 → s.btn = true → 1 < s.rqc.toNat →
    execAll [.cDone, .poll] s = .next { s with ind := false, pen := true, req := true, seq := 0x04 } ∧
    execAll [.cDone, .poll, .mClr] s = .next { s with ind := false, pen := true, req := false, rqc := 0, seq := 0x05 }

/-! ### The Scaler and the display code -/

/-- R127: the range of the level. -/
def Obligations.LevelRange : Prop :=
  ∀ m lo hi : Int, -32768 ≤ m → m ≤ 32767 → -32768 ≤ lo → lo ≤ 32767 → -32768 ≤ hi → hi ≤ 32767 →
    (lo < hi → ∃ level, scale m lo hi = .ok level ∧ level ≤ 9) ∧
    (hi < lo → ∃ level, scale m lo hi = .ok level ∧ 9 ≤ level ∧ level ≤ 589815) ∧
    (hi = lo → scale m lo hi = .error .divZero)

/-- R128: monotonicity, boundaries, clamp, low side, thresholds. -/
def Obligations.ScalerProperties : Prop :=
  ∀ lo hi : Int, lo < hi →
    (∀ m n k l, m ≤ n → scale m lo hi = .ok k → scale n lo hi = .ok l → k ≤ l) ∧
    scale lo lo hi = .ok 0 ∧ scale hi lo hi = .ok 9 ∧
    (∀ m, hi < m → scale m lo hi = scale hi lo hi) ∧
    (∀ m, m ≤ lo → scale m lo hi = .ok 0) ∧
    ∀ m : Int, ∃ level : Nat, scale m lo hi = .ok level ∧
      ∀ k : Nat, 1 ≤ k → k ≤ 9 → (k ≤ level ↔ lo + ⌈(((k : Int) * (hi - lo) : Int) : ℚ) / 9⌉ ≤ m)

/-- R126: the inverted range is computed with. -/
def Obligations.InvertedRangeLevels : Prop :=
  ∀ lo hi : Int, hi < lo →
    (∀ m, hi ≤ m → scale m lo hi = .ok 9) ∧
    (∀ m, m ≤ hi → ∃ level : Nat, scale m lo hi = .ok level ∧
      (level : Int) = ⌊((9 * (lo - m) : Int) : ℚ) / ((lo - hi : Int) : ℚ)⌋ ∧
      (level : Int) = 9 + ⌊((9 * (hi - m) : Int) : ℚ) / ((lo - hi : Int) : ℚ)⌋) ∧
    ∀ m n k l, m ≤ n → scale m lo hi = .ok k → scale n lo hi = .ok l → l ≤ k

/-- R124: floor and truncation give the same level. -/
def Obligations.FloorAndTruncationAgree : Prop :=
  ∀ m lo hi : Int, scaleByTruncation m lo hi = scale m lo hi

/-- R123: the fixed-width Scaler computes the exact level, and no intermediate value leaves its width. -/
def Obligations.FixedWidthScalerIsExact : Prop :=
  ∀ m lo hi : Data,
    (-65536 ≤ min m.toInt hi.toInt - lo.toInt ∧ min m.toInt hi.toInt - lo.toInt ≤ 65535) ∧
    (-65536 ≤ hi.toInt - lo.toInt ∧ hi.toInt - lo.toInt ≤ 65535) ∧
    (9 * (min m.toInt hi.toInt - lo.toInt)).natAbs ≤ 589815 ∧
    (hi.toInt = lo.toInt → scaleFixed m lo hi = .error .divZero) ∧
    (hi.toInt ≠ lo.toInt → ∃ (q : BitVec 21) (level : Nat),
      scaleFixed m lo hi = .ok q ∧ scale m.toInt lo.toInt hi.toInt = .ok level ∧ q.toInt = level)

/-- R130: the level as a function of the reading, for the default range. -/
def Obligations.DefaultRangeLevels : Prop :=
  ∀ m : Int,
    (m ≤ 997 → scale m 610 4095 = .ok 0) ∧ (998 ≤ m → m ≤ 1384 → scale m 610 4095 = .ok 1) ∧
    (1385 ≤ m → m ≤ 1771 → scale m 610 4095 = .ok 2) ∧ (1772 ≤ m → m ≤ 2158 → scale m 610 4095 = .ok 3) ∧
    (2159 ≤ m → m ≤ 2546 → scale m 610 4095 = .ok 4) ∧ (2547 ≤ m → m ≤ 2933 → scale m 610 4095 = .ok 5) ∧
    (2934 ≤ m → m ≤ 3320 → scale m 610 4095 = .ok 6) ∧ (3321 ≤ m → m ≤ 3707 → scale m 610 4095 = .ok 7) ∧
    (3708 ≤ m → m ≤ 4094 → scale m 610 4095 = .ok 8) ∧ (4095 ≤ m → scale m 610 4095 = .ok 9)

/-- R129, R84: the display code is the level for 0..9 and the default code for every other integer. -/
def Obligations.DisplayCodeIsTotalAndInjective : Prop :=
  (∀ level : Int, 0 ≤ level → level ≤ 9 → ((dispenc level).toNat : Int) = level) ∧
    (∀ level : Int, level < 0 ∨ 9 < level → dispenc level = 0b1000) ∧
    (∀ a b : Int, 0 ≤ a → a ≤ 9 → 0 ≤ b → b ≤ 9 → dispenc a = dispenc b → a = b) ∧
    dispTuple (dispenc 3) = (true, true, false, false) ∧ dispTuple (dispenc 18) = (false, false, false, true)

/-! ### Decimation and whole iterations -/

/-- R113: exactly 256 taken samples publish their mean, fewer publish nothing, dropped ones do not count. -/
def Obligations.WindowPublishesItsMean : Prop :=
  ∀ (ds : List RawSample) (s : State), s.acc = 0 → s.cnt = 256 →
    (s.sen = true → ds.length < 256 → execAll (ds.map .sample) s =
      .next { s with acc := BitVec.ofNat 32 (ds.map uval).sum, cnt := BitVec.ofNat 16 (256 - ds.length) }) ∧
    (s.sen = true → ds.length = 256 → ∃ t, execAll (ds.map .sample) s = .next t ∧ t.res.toNat = (ds.map uval).sum / 256 ∧
      t = { s with res := t.res }) ∧
    (s.sen = false → execAll (ds.map .sample) s = .next s)

/-- R115: the same for any factor in 1..65535 by division, and for a power of two by the shift. -/
def Obligations.WindowOfAnyFactor : Prop :=
  (∀ (n : Nat) (ds : List RawSample) (s : State), 1 ≤ n → n ≤ 65535 → s.acc = 0 → s.cnt = BitVec.ofNat 16 n →
    ds.length = n →
      ds.foldl (fun t d => filterIntakeDiv n d t) s = { s with res := BitVec.ofNat 16 ((ds.map uval).sum / n) }) ∧
    ∀ (k : Nat) (d : RawSample) (s : State), k ≤ 15 → filterIntake k d s = filterIntakeDiv (2 ^ k) d s

/-- R160 (e) with R113: 256 samples and the first three phases show the scaled mean of the samples. -/
def Obligations.DisplayShowsTheWindowsMean : Prop :=
  ∀ (ds : List RawSample) (s : State), s.sen = true → s.acc = 0 → s.cnt = 256 → s.seq = 0x00 → s.max ≠ s.min →
    ds.length = 256 →
      ∃ (level : Nat) (mean : Data), mean.toInt = (((ds.map uval).sum / 256 : Nat) : Int) ∧
        scale mean.toInt s.min.toInt s.max.toInt = .ok level ∧
        execAll (ds.map .sample ++ [.mSusp, .mRead, .mShow]) s =
          .next { s with res := mean, meas := mean, sen := false, disp := dispenc level, seq := 0x03 }

/-- R160 (a), (b): an iteration without a request, and one that arms. -/
def Obligations.IterationWithoutCalibration : Prop :=
  ∀ s : State, s.seq = 0x00 → s.max ≠ s.min →
    ∃ level, scale s.res.toInt s.min.toInt s.max.toInt = .ok level ∧
      (s.req = false → seqRun 5 s = .next { s with sen := true, meas := s.res, disp := dispenc level, seq := 0x06 }) ∧
      (s.req = true → s.rqc = 0 → seqRun 6 s =
        .next { s with sen := true, meas := s.res, disp := dispenc level, req := false, rqc := 1, seq := 0x06 })

/-- R155, R154: from Idle with no detection counted, a detection arms and a second one, in a later iteration, calls the
routine with CST = AwaitingMin. -/
def Obligations.TwoDetectionsStartCalibration : Prop :=
  ∀ s : State, s.seq = 0x00 → s.max ≠ s.min → s.req = true → s.rqc = 0 → s.cst = 0 → s.pen = true →
    ∃ level, scale s.res.toInt s.min.toInt s.max.toInt = .ok level ∧
      execAll [.mSusp, .mRead, .mShow, .mReq, .mClr, .mResm, .dlydone, .btn true, .poll, .mSusp, .mRead, .mShow, .mReq] s =
        .next { s with sen := false, meas := s.res, disp := dispenc level, req := true, rqc := 2, cst := 1, btn := true,
                       seq := 0x08 }

/-- R232: the first iteration after reset, before any sample, shows level 0. -/
def Obligations.FirstIterationShowsLevelZero : Prop :=
  ∀ (level : Bool) (moments : List Moment) (k : Nat),
    let s : State := { State.reset with btn := level, inbox := moments, draws := k }
    seqRun 3 s = .next { s with sen := false, meas := 0, disp := 0b0000, seq := 0x03 }

/-- R160 (c), R189, R177: an iteration with a complete calibration run, with any samples between any two operations: those
in `w`, inside the mask window, are dropped; those in `a` come before the minimum is acquired, those in `b` between the
acquisitions, those in `c` after the maximum is acquired. The button is pressed in each wait and released between. -/
def Obligations.IterationWithCalibration : Prop :=
  ∀ (w a b c : List Instr) (s : State), s.seq = 0x00 → s.max ≠ s.min → s.req = true → s.rqc = 1 → s.cst = 0 →
    withoutSamples w = [.mRead, .mShow, .mReq, .cInd] →
    withoutSamples a = [.dlydone, .cMin0, .btn true, .cMinw, .dlydone] →
    withoutSamples b = [.btn false, .dlydone, .cMax0, .btn true, .cMaxw, .dlydone] →
    withoutSamples c = [.cChk, .dlydone, .cDone, .mClr, .mResm] →
    let atMin := (payloads a).foldl (fun t d => filterIntake 8 d t) s
    let atMax := (payloads b).foldl (fun t d => filterIntake 8 d t) atMin
    let atEnd := (payloads c).foldl (fun t d => filterIntake 8 d t) atMax
    execAll (.mSusp :: w ++ .cMask :: a ++ .cMins :: b ++ .cMaxs :: c) s =
      .next { s with acc := atEnd.acc, cnt := atEnd.cnt, res := atEnd.res, min := atMin.res, max := atMax.res,
                     meas := s.res, disp := 0b1001, req := false, rqc := 0, cst := 0, sen := true, pen := true,
                     ind := false, btn := true, seq := 0x06 }

/-- R159, R93: from any assigned phase, with nothing else happening, the sequencer holds after at most six operations, or
M_SHOW faults before. -/
def Obligations.SequencerReachesAHold : Prop :=
  ∀ s : State, isAssigned s.seq = true →
    ∃ k, k ≤ 6 ∧ ((∃ t, seqRun k s = .next t ∧ holds t = true) ∨ seqRun k s = .fault .divZero)

/-! ### Steps -/

/-- R87: a step decodes what the fetch selects and performs it; with no moment waiting that is the operation of SEQ (log
entry 2), and an event alone in its moment is performed with the moment used up. -/
def Obligations.StepPerformsTheSelectedOperation : Prop :=
  (∀ (s t : State) (sel : Selector) (i : Instr), fetch s = .run sel t → decode sel = .ok i → step s = exec i t) ∧
    (∀ (s : State) (i : Instr), s.inbox = [] → decode (.seq s.seq) = .ok i → step s = exec i s) ∧
    (∀ (s : State) (rest : List Moment) (i : Instr), i.isSequencer = false →
      step { s with inbox := Moment.ofSelector (encode i) :: rest } = exec i { s with inbox := rest }) ∧
    ∀ (s : State) (rest : List Moment) (i : Instr), decode (.seq s.seq) = .ok i →
      step { s with inbox := Moment.turn :: rest } = exec i { s with inbox := rest }

/-- R86, R207: of events that occur together a step performs one, RESET only when nothing else is left. -/
def Obligations.SimultaneousEventsResetLast : Prop :=
  ∀ (s : State) (m : Moment) (rest : List Moment), s.inbox = m :: rest →
    (m.candidates = [] → step s = .next { s with inbox := rest }) ∧
    (m.candidates ≠ [] → ∃ src ∈ m.candidates, ∃ k : Nat,
      step s = runSelector (src.selector m s) { s with inbox := m.after src rest, draws := k }) ∧
    (Source.strobe .rst ∈ m.candidates → m.beforeReset = [] ∧ m.candidates = [.strobe .rst])

/-- R73, R86: performing one event of a moment leaves exactly the others to come: `without` erases that event alone; what
follows is the moment without it as long as something is left in it, and the rest; and that is what a step leaves. That the
moments to come are a list in State is the model's (log entry 2). -/
def Obligations.EachEventIsPerformedOnce : Prop :=
  ∀ (m : Moment) (rest : List Moment),
    (∀ src ∈ m.beforeReset,
      (m.without src).beforeReset = m.beforeReset.erase src ∧
      (Strobe.rst ∈ strobesOf (m.without src).strobes ↔ Strobe.rst ∈ strobesOf m.strobes) ∧
      (m.without src).data = m.data ∧
      (m.beforeReset = [src] → Strobe.rst ∉ strobesOf m.strobes → m.after src rest = rest) ∧
      (m.beforeReset ≠ [src] ∨ Strobe.rst ∈ strobesOf m.strobes → m.after src rest = m.without src :: rest)) ∧
    (m.candidates = [.strobe .rst] → m.after (.strobe .rst) rest = rest) ∧
    ∀ s t : State, s.inbox = m :: rest → step s = .next t →
      (m.candidates = [] ∧ t.inbox = rest) ∨ ∃ src ∈ m.candidates, t.inbox = m.after src rest

/-- No step is refused: every operation of the table has its meaning. -/
def Obligations.NoStepIsRefused : Prop :=
  ∀ (s : State) (r : Refusal), step s ≠ .refused r

/-- R202, R203, R211: the only faults, who raises them, and when. -/
def Obligations.FaultsAreTheTwoOfTheSpec : Prop :=
  (∀ (i : Instr) (s : State) (f : Fault), exec i s = .fault f ↔
    i = .mShow ∧ s.seq = 0x02 ∧ s.max.toInt = s.min.toInt ∧ f = .divZero) ∧
    ∀ (s : State) (f : Fault), step s = .fault f →
      (f = .divZero ∧ f.code = 1 ∧ s.seq = 0x02 ∧ s.max.toInt = s.min.toInt) ∨
      (f = .seq s.seq ∧ f.code = 2 ∧ isAssigned s.seq = false)

/-- R212: at an assigned phase the sequencer's operation leaves the state as it is exactly in the holds. That a hold answers
a next state, the unchanged one, is log entry 1. -/
def Obligations.HoldsAreExactlyTheSpecs : Prop :=
  ∀ s : State, isAssigned s.seq = true →
    (runSelector (.seq s.seq) s = .next s ↔
      s.seq = 0x06 ∨ s.seq = 0x0A ∨ s.seq = 0x0D ∨ s.seq = 0x0F ∨ s.seq = 0x12 ∨ s.seq = 0x15 ∨
      ((s.seq = 0x0C ∨ s.seq = 0x11) ∧ s.btn = false))

/-- A sequencer operation that SEQ does not select is not enabled and changes nothing (R14, R85; log entry 1). -/
def Obligations.DisabledOperationChangesNothing : Prop :=
  ∀ (i : Instr) (s : State), i.isSequencer = true → decode (.seq s.seq) ≠ .ok i → exec i s = .next s

/-- R92: a trace line that runs is one step with the line's moment first; a line that faults is a step that faults. -/
def Obligations.TraceLineIsOneStep : Prop :=
  ∀ (l : TraceLine) (s : State),
    (∀ t, performLine l (.running s) = .running t → step { s with inbox := momentOfLine l :: s.inbox } = .next t) ∧
    ∀ f t, performLine l (.running s) = .faulted f t → step { s with inbox := momentOfLine l :: s.inbox } = .fault f ∧ t = s

/-- R67, R92: a trace that runs, with no fault on the way (a machine's run ends at its first fault, a trace may go on with
RESET), is a run of the machine whose moments are the trace's lines, whatever comes after. -/
def Obligations.TraceIsARunOfTheMachine : Prop :=
  ∀ (ls : List TraceLine) (s t : State), (∀ k f u, runTrace ((ls.take k).map .line) s ≠ .faulted f u) →
    runTrace (ls.map .line) s = .running t →
    Sys2Proof.core.run ls.length { s with inbox := ls.map momentOfLine ++ s.inbox } = .next t

/-- R200, R230: a faulted run performs nothing until RESET, which gives the reset state. R200 says that no operation is
performed; that every other line leaves the run faulted, STEP name with its assertion dropped and an ill-formed event line
included, is the model's choice (log entry 13). That RESET keeps the moments to come and the count of choices is the model's
choice too (log entry 5). -/
def Obligations.OnlyResetEndsAFaultedRun : Prop :=
  ∀ (f : Fault) (s : State),
    (∀ l : TraceLine, l ≠ .event .reset → performLine l (.faulted f s) = .faulted f s) ∧
    performLine (.event .reset) (.faulted f s) =
      .running { State.reset with btn := s.btn, inbox := s.inbox, draws := s.draws }

/-! ### Whole-machine rules -/

/-- R21, R37: the writers of each register, RESET apart; POLL only sets REQ and M_CLR only clears it. -/
def Obligations.WritersOfEachRegister : Prop :=
  ∀ (i : Instr) (s t : State), exec i s = .next t → i ≠ .reset →
    ((t.acc ≠ s.acc ∨ t.cnt ≠ s.cnt ∨ t.res ≠ s.res) → ∃ d, i = .sample d) ∧
    (t.min ≠ s.min → i = .cMins) ∧ (t.max ≠ s.max → i = .cMaxs) ∧ (t.meas ≠ s.meas → i = .mRead) ∧
    (t.seq ≠ s.seq → i.isSequencer = true ∨ i = .dlydone) ∧
    (t.req ≠ s.req → (i = .poll ∧ t.req = true) ∨ (i = .mClr ∧ t.req = false)) ∧
    (t.rqc ≠ s.rqc → i = .mReq ∨ i = .mClr) ∧
    (t.cst ≠ s.cst → i = .mReq ∨ i = .cMins ∨ i = .cMaxs ∨ i = .cChk) ∧
    (t.sen ≠ s.sen → i = .mSusp ∨ i = .mResm ∨ i = .cMask) ∧
    (t.pen ≠ s.pen → i = .cMask ∨ i = .cDone) ∧ (t.ind ≠ s.ind → i = .cInd ∨ i = .cDone) ∧
    (t.disp ≠ s.disp → i = .mShow ∨ i = .cMin0 ∨ i = .cMax0) ∧ (t.btn ≠ s.btn → ∃ v, i = .btn v) ∧
    t.inbox = s.inbox ∧ t.draws = s.draws

/-- R21, R22, R23: nothing but SAMPLE reads ACC or CNT: change them, and every other operation does the same to the rest. -/
def Obligations.OnlySampleReadsAccAndCnt : Prop :=
  ∀ (i : Instr) (s : State) (a : Acc) (c : Count), (∀ d, i ≠ .sample d) → i ≠ .reset →
    (∀ t, exec i s = .next t → exec i { s with acc := a, cnt := c } = .next { t with acc := a, cnt := c }) ∧
    ∀ f, exec i s = .fault f → exec i { s with acc := a, cnt := c } = .fault f

/-- R68: while SEN = 0 no step changes ACC, CNT or RES, RESET apart. -/
def Obligations.MaskWindowFreezesTheResult : Prop :=
  ∀ s t : State, s.sen = false → step s = .next t →
    (t.acc = s.acc ∧ t.cnt = s.cnt ∧ t.res = s.res) ∨
    t = { State.reset with btn := t.btn, inbox := t.inbox, draws := t.draws }

/-- R188: in states that meet the invariant CST moves Idle, AwaitingMin, AwaitingMax, Idle and never otherwise, RESET
apart. -/
def Obligations.CalibrationStateMovesForward : Prop :=
  ∀ s t : State, Inv s → step s = .next t →
    t.cst = s.cst ∨ (s.cst = 0 ∧ t.cst = 1 ∧ s.seq = 0x03) ∨ (s.cst = 1 ∧ t.cst = 2 ∧ s.seq = 0x0E ∧ t.min = s.res) ∨
    (s.cst = 2 ∧ t.cst = 0 ∧ s.seq = 0x13 ∧ t.max = s.res) ∨
    t = { State.reset with btn := t.btn, inbox := t.inbox, draws := t.draws }

/-- R236 at reset, whatever the button level and the moments to come. -/
def Obligations.InvariantHoldsAtReset : Prop :=
  ∀ (level : Bool) (moments : List Moment) (k : Nat), Inv { State.reset with btn := level, inbox := moments, draws := k }

/-- R236: every step keeps the invariant, for every order of every agent's operations. -/
def Obligations.EveryStepKeepsTheInvariant : Prop :=
  ∀ s t : State, Inv s → step s = .next t → Inv t

/-- R203, R236: every reachable state meets the invariant, no modular operation wraps in it, and a step from it goes on, but
for M_SHOW with MAX = MIN. That a hold with nothing waiting goes on, to the unchanged state, is log entry 1; R14 says only
that the agent takes no step. -/
def Obligations.ReachableStatesKeepTheirBoundsAndGoOn : Prop :=
  ∀ s : State, Reachable s →
    Inv s ∧ NoWrap s ∧ ((∃ t, step s = .next t) ∨ (step s = .fault .divZero ∧ s.seq = 0x02 ∧ s.max = s.min))

/-- R160 (d), R236 (j): every iteration of a run starts with the calibration state Idle, both triggers enabled, the indicator
off and at most one detection counted; and at M_RESM SEN is 1 exactly when a calibration run has just ended, which RQC does
not tell. -/
def Obligations.EveryIterationStartsCleanAndResumes : Prop :=
  (∀ s : State, Reachable s → s.seq = 0x00 →
    s.cst = 0 ∧ s.pen = true ∧ s.ind = false ∧ s.sen = true ∧ (s.rqc = 0 ∨ s.rqc = 1)) ∧
  (∀ s : State, Reachable s ↔ ∃ ended, ReachableSince ended s) ∧
  (∀ (ended : Bool) (s : State), ReachableSince ended s → s.seq = 0x05 → s.sen = ended) ∧
  ∃ s t : State, ReachableSince true s ∧ ReachableSince false t ∧ s.seq = 0x05 ∧ t.seq = 0x05 ∧ s.rqc = 0 ∧ t.rqc = 0
end

