-- ==== Sys2Proof/Laws/Fetch.lean ====
section
/-! SUPPORT. Everything a fetch can select and everything a step can do. -/

namespace Sys2Proof.Machine

/-- The strobes of an event vector, bit by bit (R86). -/
theorem strobesOf_eq : ∀ ev : EventVector, strobesOf ev =
    (if ev.getLsbD 0 then [Strobe.smpTrig] else []) ++ (if ev.getLsbD 1 then [Strobe.pollTrig] else []) ++
      (if ev.getLsbD 2 then [Strobe.dlyDone] else []) ++ (if ev.getLsbD 3 then [Strobe.rst] else []) := by decide

theorem strobesOf_mask (t : Strobe) : strobesOf t.mask = [t] := by cases t <;> rfl

theorem mask_of_strobesOf (t : Strobe) : ∀ ev : EventVector, strobesOf ev = [t] → ev = t.mask := by cases t <;> decide

/-- Nothing is left of a moment when neither an event before RESET nor RESET is. -/
theorem candidates_eq_nil (m : Moment) :
    m.candidates = [] ↔ m.beforeReset = [] ∧ Strobe.rst ∉ strobesOf m.strobes := by
  unfold Moment.candidates
  split
  · rename_i h; simp [h]
  · rename_i h; simp [h]

/-- What is still to come after one source: the moment without it, as long as something is left. -/
theorem after_eq (m : Moment) (src : Source) (rest : List Moment) :
    m.after src rest = if (m.without src).candidates = [] then rest else m.without src :: rest := by
  unfold Moment.after; split <;> simp_all

/-- A fetch changes the moments to come and the count of choices, and nothing else. -/
theorem fetch_run_frame {s t : State} {sel : Selector} (h : fetch s = .run sel t) :
    ∃ q k, t = { s with inbox := q, draws := k } := by
  unfold fetch at h
  split at h
  · injection h with h1 h2; subst h2; exact ⟨_, _, rfl⟩
  · split at h
    · cases h
    · injection h with h1 h2; subst h2; exact ⟨_, _, rfl⟩
    · injection h with h1 h2; subst h2; exact ⟨_, _, rfl⟩

/-- The only phase code that a fetch selects is SEQ (R80). -/
theorem fetch_run_seq {s t : State} {code : PhaseCode} (h : fetch s = .run (.seq code) t) : code = s.seq := by
  unfold fetch at h
  have key : ∀ (src : Source) (m : Moment), src.selector m s = .seq code → code = s.seq := by
    intro src m
    cases src <;> simp [Source.selector]
    exact fun h => h.symm
  split at h
  · cases h; rfl
  · split at h
    · cases h
    · injection h with h1 h2; exact key _ _ h1
    · injection h with h1 h2; exact key _ _ h1

theorem fetch_nothing_frame {s t : State} (h : fetch s = .nothing t) : ∃ q, t = { s with inbox := q } := by
  unfold fetch at h
  split at h
  · cases h
  · split at h <;> cases h
    exact ⟨_, rfl⟩

/-- Everything a step can do when it goes on: pass over an empty moment, or perform one operation. -/
theorem step_next {s t : State} (h : step s = .next t) :
    (∃ q, t = { s with inbox := q }) ∨ ∃ i q k, exec i { s with inbox := q, draws := k } = .next t := by
  unfold step at h
  split at h
  · rename_i s' hf
    injection h with h; subst h
    exact .inl (fetch_nothing_frame hf)
  · rename_i sel s' hf
    obtain ⟨q, k, rfl⟩ := fetch_run_frame hf
    unfold runSelector at h
    split at h
    · exact .inr ⟨_, _, _, h⟩
    · rename_i e _; cases e; cases h

/-- The sequencer's turn alone in its moment. -/
theorem step_turn (s : State) (rest : List Moment) :
    step { s with inbox := Moment.turn :: rest } = runSelector (.seq s.seq) { s with inbox := rest } := rfl

/-- With no moment waiting the sequencer's operation is next. -/
theorem step_idle {s : State} (h : s.inbox = []) : step s = runSelector (.seq s.seq) s := by simp [step, fetch, h]

end Sys2Proof.Machine
end

