-- ==== Sys2Proof/Laws/Decode.lean ====
section
/-! SUPPORT. Trace words field by field (30_encoding.md R94). -/

namespace Sys2Proof

theorem strobeWord_ev (t : Strobe) (d : RawSample) : (strobeWord t d).extractLsb' 12 4 = t.mask := by
  apply BitVec.eq_of_toNat_eq
  have := d.isLt
  cases t <;> simp [strobeWord, Strobe.mask, Nat.shiftRight_eq_div_pow] <;> omega

theorem strobeWord_payload (t : Strobe) (d : RawSample) : (strobeWord t d).extractLsb' 0 12 = d := by
  apply BitVec.eq_of_toNat_eq
  have := d.isLt
  cases t <;> simp [strobeWord, Strobe.mask] <;> omega

theorem traceWord_split (w : TraceWord) :
    w.toNat = (w.extractLsb' 12 4).toNat * 4096 + (w.extractLsb' 0 12).toNat := by
  have := w.isLt
  simp [Nat.shiftRight_eq_div_pow]
  omega

end Sys2Proof
end

