-- ==== Sys2Proof/Laws/State.lean ====
section
/-! SUPPORT. Every shared update of State, field by field. -/

namespace Sys2Proof.Machine

/-! ### `SEQ <- P` -/

@[simp] theorem State.goto_acc (s : State) (code : PhaseCode) : (s.goto code).acc = s.acc := rfl
@[simp] theorem State.goto_cnt (s : State) (code : PhaseCode) : (s.goto code).cnt = s.cnt := rfl
@[simp] theorem State.goto_res (s : State) (code : PhaseCode) : (s.goto code).res = s.res := rfl
@[simp] theorem State.goto_min (s : State) (code : PhaseCode) : (s.goto code).min = s.min := rfl
@[simp] theorem State.goto_max (s : State) (code : PhaseCode) : (s.goto code).max = s.max := rfl
@[simp] theorem State.goto_meas (s : State) (code : PhaseCode) : (s.goto code).meas = s.meas := rfl
@[simp] theorem State.goto_seq (s : State) (code : PhaseCode) : (s.goto code).seq = code := rfl
@[simp] theorem State.goto_req (s : State) (code : PhaseCode) : (s.goto code).req = s.req := rfl
@[simp] theorem State.goto_rqc (s : State) (code : PhaseCode) : (s.goto code).rqc = s.rqc := rfl
@[simp] theorem State.goto_cst (s : State) (code : PhaseCode) : (s.goto code).cst = s.cst := rfl
@[simp] theorem State.goto_sen (s : State) (code : PhaseCode) : (s.goto code).sen = s.sen := rfl
@[simp] theorem State.goto_pen (s : State) (code : PhaseCode) : (s.goto code).pen = s.pen := rfl
@[simp] theorem State.goto_ind (s : State) (code : PhaseCode) : (s.goto code).ind = s.ind := rfl
@[simp] theorem State.goto_disp (s : State) (code : PhaseCode) : (s.goto code).disp = s.disp := rfl
@[simp] theorem State.goto_btn (s : State) (code : PhaseCode) : (s.goto code).btn = s.btn := rfl
@[simp] theorem State.goto_inbox (s : State) (code : PhaseCode) : (s.goto code).inbox = s.inbox := rfl
@[simp] theorem State.goto_draws (s : State) (code : PhaseCode) : (s.goto code).draws = s.draws := rfl

/-! ### RESET -/

@[simp] theorem State.reset_acc : State.reset.acc = 0 := rfl
@[simp] theorem State.reset_cnt : State.reset.cnt = 256 := rfl
@[simp] theorem State.reset_res : State.reset.res = 0 := rfl
@[simp] theorem State.reset_min : State.reset.min = 610 := rfl
@[simp] theorem State.reset_max : State.reset.max = 4095 := rfl
@[simp] theorem State.reset_meas : State.reset.meas = 0 := rfl
@[simp] theorem State.reset_seq : State.reset.seq = 0x00 := rfl
@[simp] theorem State.reset_req : State.reset.req = false := rfl
@[simp] theorem State.reset_rqc : State.reset.rqc = 0 := rfl
@[simp] theorem State.reset_cst : State.reset.cst = 0 := rfl
@[simp] theorem State.reset_sen : State.reset.sen = true := rfl
@[simp] theorem State.reset_pen : State.reset.pen = true := rfl
@[simp] theorem State.reset_ind : State.reset.ind = false := rfl
@[simp] theorem State.reset_disp : State.reset.disp = 0b0000 := rfl
@[simp] theorem State.reset_btn : State.reset.btn = false := rfl
@[simp] theorem State.reset_inbox : State.reset.inbox = [] := rfl
@[simp] theorem State.reset_draws : State.reset.draws = 0 := rfl

@[simp] theorem State.afterReset_acc (s : State) : s.afterReset.acc = 0 := rfl
@[simp] theorem State.afterReset_cnt (s : State) : s.afterReset.cnt = 256 := rfl
@[simp] theorem State.afterReset_res (s : State) : s.afterReset.res = 0 := rfl
@[simp] theorem State.afterReset_min (s : State) : s.afterReset.min = 610 := rfl
@[simp] theorem State.afterReset_max (s : State) : s.afterReset.max = 4095 := rfl
@[simp] theorem State.afterReset_meas (s : State) : s.afterReset.meas = 0 := rfl
@[simp] theorem State.afterReset_seq (s : State) : s.afterReset.seq = 0x00 := rfl
@[simp] theorem State.afterReset_req (s : State) : s.afterReset.req = false := rfl
@[simp] theorem State.afterReset_rqc (s : State) : s.afterReset.rqc = 0 := rfl
@[simp] theorem State.afterReset_cst (s : State) : s.afterReset.cst = 0 := rfl
@[simp] theorem State.afterReset_sen (s : State) : s.afterReset.sen = true := rfl
@[simp] theorem State.afterReset_pen (s : State) : s.afterReset.pen = true := rfl
@[simp] theorem State.afterReset_ind (s : State) : s.afterReset.ind = false := rfl
@[simp] theorem State.afterReset_disp (s : State) : s.afterReset.disp = 0b0000 := rfl
@[simp] theorem State.afterReset_btn (s : State) : s.afterReset.btn = s.btn := rfl
@[simp] theorem State.afterReset_inbox (s : State) : s.afterReset.inbox = s.inbox := rfl
@[simp] theorem State.afterReset_draws (s : State) : s.afterReset.draws = s.draws := rfl

/-- RESET in one equation (R230). -/
theorem State.afterReset_eq (s : State) :
    s.afterReset = { State.reset with btn := s.btn, inbox := s.inbox, draws := s.draws } := rfl

/-! ### The filter's intake: only ACC, CNT and RES change -/

@[simp] theorem filterIntake_min (k : Nat) (d : RawSample) (s : State) : (filterIntake k d s).min = s.min := by
  unfold filterIntake; dsimp only; split <;> rfl
@[simp] theorem filterIntake_max (k : Nat) (d : RawSample) (s : State) : (filterIntake k d s).max = s.max := by
  unfold filterIntake; dsimp only; split <;> rfl
@[simp] theorem filterIntake_meas (k : Nat) (d : RawSample) (s : State) : (filterIntake k d s).meas = s.meas := by
  unfold filterIntake; dsimp only; split <;> rfl
@[simp] theorem filterIntake_seq (k : Nat) (d : RawSample) (s : State) : (filterIntake k d s).seq = s.seq := by
  unfold filterIntake; dsimp only; split <;> rfl
@[simp] theorem filterIntake_req (k : Nat) (d : RawSample) (s : State) : (filterIntake k d s).req = s.req := by
  unfold filterIntake; dsimp only; split <;> rfl
@[simp] theorem filterIntake_rqc (k : Nat) (d : RawSample) (s : State) : (filterIntake k d s).rqc = s.rqc := by
  unfold filterIntake; dsimp only; split <;> rfl
@[simp] theorem filterIntake_cst (k : Nat) (d : RawSample) (s : State) : (filterIntake k d s).cst = s.cst := by
  unfold filterIntake; dsimp only; split <;> rfl
@[simp] theorem filterIntake_sen (k : Nat) (d : RawSample) (s : State) : (filterIntake k d s).sen = s.sen := by
  unfold filterIntake; dsimp only; split <;> rfl
@[simp] theorem filterIntake_pen (k : Nat) (d : RawSample) (s : State) : (filterIntake k d s).pen = s.pen := by
  unfold filterIntake; dsimp only; split <;> rfl
@[simp] theorem filterIntake_ind (k : Nat) (d : RawSample) (s : State) : (filterIntake k d s).ind = s.ind := by
  unfold filterIntake; dsimp only; split <;> rfl
@[simp] theorem filterIntake_disp (k : Nat) (d : RawSample) (s : State) : (filterIntake k d s).disp = s.disp := by
  unfold filterIntake; dsimp only; split <;> rfl
@[simp] theorem filterIntake_btn (k : Nat) (d : RawSample) (s : State) : (filterIntake k d s).btn = s.btn := by
  unfold filterIntake; dsimp only; split <;> rfl
@[simp] theorem filterIntake_inbox (k : Nat) (d : RawSample) (s : State) : (filterIntake k d s).inbox = s.inbox := by
  unfold filterIntake; dsimp only; split <;> rfl
@[simp] theorem filterIntake_draws (k : Nat) (d : RawSample) (s : State) : (filterIntake k d s).draws = s.draws := by
  unfold filterIntake; dsimp only; split <;> rfl

@[simp] theorem filterIntakeDiv_min (n : Nat) (d : RawSample) (s : State) : (filterIntakeDiv n d s).min = s.min := by
  unfold filterIntakeDiv; dsimp only; split <;> rfl
@[simp] theorem filterIntakeDiv_max (n : Nat) (d : RawSample) (s : State) : (filterIntakeDiv n d s).max = s.max := by
  unfold filterIntakeDiv; dsimp only; split <;> rfl
@[simp] theorem filterIntakeDiv_meas (n : Nat) (d : RawSample) (s : State) : (filterIntakeDiv n d s).meas = s.meas := by
  unfold filterIntakeDiv; dsimp only; split <;> rfl
@[simp] theorem filterIntakeDiv_seq (n : Nat) (d : RawSample) (s : State) : (filterIntakeDiv n d s).seq = s.seq := by
  unfold filterIntakeDiv; dsimp only; split <;> rfl
@[simp] theorem filterIntakeDiv_req (n : Nat) (d : RawSample) (s : State) : (filterIntakeDiv n d s).req = s.req := by
  unfold filterIntakeDiv; dsimp only; split <;> rfl
@[simp] theorem filterIntakeDiv_rqc (n : Nat) (d : RawSample) (s : State) : (filterIntakeDiv n d s).rqc = s.rqc := by
  unfold filterIntakeDiv; dsimp only; split <;> rfl
@[simp] theorem filterIntakeDiv_cst (n : Nat) (d : RawSample) (s : State) : (filterIntakeDiv n d s).cst = s.cst := by
  unfold filterIntakeDiv; dsimp only; split <;> rfl
@[simp] theorem filterIntakeDiv_sen (n : Nat) (d : RawSample) (s : State) : (filterIntakeDiv n d s).sen = s.sen := by
  unfold filterIntakeDiv; dsimp only; split <;> rfl
@[simp] theorem filterIntakeDiv_pen (n : Nat) (d : RawSample) (s : State) : (filterIntakeDiv n d s).pen = s.pen := by
  unfold filterIntakeDiv; dsimp only; split <;> rfl
@[simp] theorem filterIntakeDiv_ind (n : Nat) (d : RawSample) (s : State) : (filterIntakeDiv n d s).ind = s.ind := by
  unfold filterIntakeDiv; dsimp only; split <;> rfl
@[simp] theorem filterIntakeDiv_disp (n : Nat) (d : RawSample) (s : State) : (filterIntakeDiv n d s).disp = s.disp := by
  unfold filterIntakeDiv; dsimp only; split <;> rfl
@[simp] theorem filterIntakeDiv_btn (n : Nat) (d : RawSample) (s : State) : (filterIntakeDiv n d s).btn = s.btn := by
  unfold filterIntakeDiv; dsimp only; split <;> rfl
@[simp] theorem filterIntakeDiv_inbox (n : Nat) (d : RawSample) (s : State) : (filterIntakeDiv n d s).inbox = s.inbox := by
  unfold filterIntakeDiv; dsimp only; split <;> rfl
@[simp] theorem filterIntakeDiv_draws (n : Nat) (d : RawSample) (s : State) : (filterIntakeDiv n d s).draws = s.draws := by
  unfold filterIntakeDiv; dsimp only; split <;> rfl

/-! ### M_REQ's observed request: RQC, CST and SEQ change -/

@[simp] theorem observeRequest_acc (s : State) : (observeRequest s).acc = s.acc := by
  unfold observeRequest; dsimp only; split <;> rfl
@[simp] theorem observeRequest_cnt (s : State) : (observeRequest s).cnt = s.cnt := by
  unfold observeRequest; dsimp only; split <;> rfl
@[simp] theorem observeRequest_res (s : State) : (observeRequest s).res = s.res := by
  unfold observeRequest; dsimp only; split <;> rfl
@[simp] theorem observeRequest_min (s : State) : (observeRequest s).min = s.min := by
  unfold observeRequest; dsimp only; split <;> rfl
@[simp] theorem observeRequest_max (s : State) : (observeRequest s).max = s.max := by
  unfold observeRequest; dsimp only; split <;> rfl
@[simp] theorem observeRequest_meas (s : State) : (observeRequest s).meas = s.meas := by
  unfold observeRequest; dsimp only; split <;> rfl
@[simp] theorem observeRequest_req (s : State) : (observeRequest s).req = s.req := by
  unfold observeRequest; dsimp only; split <;> rfl
@[simp] theorem observeRequest_sen (s : State) : (observeRequest s).sen = s.sen := by
  unfold observeRequest; dsimp only; split <;> rfl
@[simp] theorem observeRequest_pen (s : State) : (observeRequest s).pen = s.pen := by
  unfold observeRequest; dsimp only; split <;> rfl
@[simp] theorem observeRequest_ind (s : State) : (observeRequest s).ind = s.ind := by
  unfold observeRequest; dsimp only; split <;> rfl
@[simp] theorem observeRequest_disp (s : State) : (observeRequest s).disp = s.disp := by
  unfold observeRequest; dsimp only; split <;> rfl
@[simp] theorem observeRequest_btn (s : State) : (observeRequest s).btn = s.btn := by
  unfold observeRequest; dsimp only; split <;> rfl
@[simp] theorem observeRequest_inbox (s : State) : (observeRequest s).inbox = s.inbox := by
  unfold observeRequest; dsimp only; split <;> rfl
@[simp] theorem observeRequest_draws (s : State) : (observeRequest s).draws = s.draws := by
  unfold observeRequest; dsimp only; split <;> rfl

@[simp] theorem observeRequest_rqc (s : State) : (observeRequest s).rqc = s.rqc + 1 := by
  unfold observeRequest; dsimp only; split <;> rfl

/-! ### Presenting an operation: SEQ and the moments to come change -/

@[simp] theorem State.presenting_acc (s : State) (sel : Selector) : (s.presenting sel).acc = s.acc := by
  cases sel <;> rfl
@[simp] theorem State.presenting_cnt (s : State) (sel : Selector) : (s.presenting sel).cnt = s.cnt := by
  cases sel <;> rfl
@[simp] theorem State.presenting_res (s : State) (sel : Selector) : (s.presenting sel).res = s.res := by
  cases sel <;> rfl
@[simp] theorem State.presenting_min (s : State) (sel : Selector) : (s.presenting sel).min = s.min := by
  cases sel <;> rfl
@[simp] theorem State.presenting_max (s : State) (sel : Selector) : (s.presenting sel).max = s.max := by
  cases sel <;> rfl
@[simp] theorem State.presenting_meas (s : State) (sel : Selector) : (s.presenting sel).meas = s.meas := by
  cases sel <;> rfl
@[simp] theorem State.presenting_req (s : State) (sel : Selector) : (s.presenting sel).req = s.req := by
  cases sel <;> rfl
@[simp] theorem State.presenting_rqc (s : State) (sel : Selector) : (s.presenting sel).rqc = s.rqc := by
  cases sel <;> rfl
@[simp] theorem State.presenting_cst (s : State) (sel : Selector) : (s.presenting sel).cst = s.cst := by
  cases sel <;> rfl
@[simp] theorem State.presenting_sen (s : State) (sel : Selector) : (s.presenting sel).sen = s.sen := by
  cases sel <;> rfl
@[simp] theorem State.presenting_pen (s : State) (sel : Selector) : (s.presenting sel).pen = s.pen := by
  cases sel <;> rfl
@[simp] theorem State.presenting_ind (s : State) (sel : Selector) : (s.presenting sel).ind = s.ind := by
  cases sel <;> rfl
@[simp] theorem State.presenting_disp (s : State) (sel : Selector) : (s.presenting sel).disp = s.disp := by
  cases sel <;> rfl
@[simp] theorem State.presenting_btn (s : State) (sel : Selector) : (s.presenting sel).btn = s.btn := by
  cases sel <;> rfl
@[simp] theorem State.presenting_draws (s : State) (sel : Selector) : (s.presenting sel).draws = s.draws := by
  cases sel <;> rfl

end Sys2Proof.Machine
end

