-- ==== Sys2Proof/Laws/Ops.lean ====
section
/-! SUPPORT. What the shared operations can do: the enable of a sequencer operation, the mask of a trigger, the phases; and
that the moments to come are a bystander of every operation. -/

namespace Sys2Proof.Machine

/-! ### Enables -/

theorem whenPhase_at {code : PhaseCode} {s : State} (h : s.seq = code) (r : Result) : whenPhase code s r = r := if_pos h

theorem whenPhase_elsewhere {code : PhaseCode} {s : State} (h : s.seq ≠ code) (r : Result) :
    whenPhase code s r = .next s := if_neg h

/-- Everything a sequencer operation can do when it goes on: its effect, at its phase, or nothing. -/
theorem whenPhase_next {code : PhaseCode} {s t : State} {r : Result} (h : whenPhase code s r = .next t) :
    (s.seq = code ∧ r = .next t) ∨ s = t := by
  unfold whenPhase at h
  split at h
  · exact .inl ⟨‹_›, h⟩
  · injection h with h; exact .inr h

@[simp] theorem whenEnabled_true (s t : State) : whenEnabled true s t = .next t := rfl

@[simp] theorem whenEnabled_false (s t : State) : whenEnabled false s t = .next s := rfl

/-- Everything a trigger can do: it is taken, or it is dropped. -/
theorem whenEnabled_next {e : Bool} {s t u : State} (h : whenEnabled e s t = .next u) :
    (e = true ∧ u = t) ∨ (e = false ∧ u = s) := by
  cases e
  · injection h with h; exact .inr ⟨rfl, h.symm⟩
  · injection h with h; exact .inl ⟨rfl, h.symm⟩

/-! ### Phases -/

/-- The unassigned codes are 0x07 and those from 0x17 (R85). -/
theorem isAssigned_eq : ∀ c : PhaseCode, isAssigned c = (c != 7 && decide (c.toNat < 23)) := by decide

theorem assigned_cases : ∀ c : PhaseCode, isAssigned c = true →
    c = 0 ∨ c = 1 ∨ c = 2 ∨ c = 3 ∨ c = 4 ∨ c = 5 ∨ c = 6 ∨ c = 8 ∨ c = 9 ∨ c = 10 ∨ c = 11 ∨ c = 12 ∨ c = 13 ∨ c = 14 ∨
      c = 15 ∨ c = 16 ∨ c = 17 ∨ c = 18 ∨ c = 19 ∨ c = 20 ∨ c = 21 ∨ c = 22 := by decide

theorem isDelayPhase_iff : ∀ c : PhaseCode, isDelayPhase c = true ↔
    c = 0x06 ∨ c = 0x0A ∨ c = 0x0D ∨ c = 0x0F ∨ c = 0x12 ∨ c = 0x15 := by decide

theorem afterDelay_of_not_delay : ∀ c : PhaseCode, isDelayPhase c = false → afterDelay c = c := by decide

theorem afterDelay_assigned : ∀ c : PhaseCode, isAssigned c = true → isAssigned (afterDelay c) = true := by decide

theorem cst_cases : ∀ c : CalState, c.toNat ≤ 2 → c = 0 ∨ c = 1 ∨ c = 2 := by decide

theorem rqc_cases : ∀ r : ReqCount, r.toNat ≤ 2 → r = 0 ∨ r = 1 ∨ r = 2 := by decide

/-! ### The moments to come and the count of choices are read and written by no operation -/

theorem exec_inbox (i : Instr) (s t : State) (q : List Moment) (h : exec i s = .next t) :
    exec i { s with inbox := q } = .next { t with inbox := q } := by
  cases i
  all_goals simp only [exec, execMSusp, execMRead, execMShow, execMReq, execMClr, execMResm, execMWait, execCInd, execCMask,
    execCDly1, execCMin0, execCMinw, execCMind, execCMins, execCDly2, execCMax0, execCMaxw, execCMaxd, execCMaxs, execCChk,
    execCDly3, execCDone, execSample, execPoll, execDlydone, execBtn, execReset, whenPhase, whenEnabled, hold, showLevel, raise,
    observeRequest, State.goto, reqAfterPoll, State.measured, State.rangeMin, State.rangeMax, State.pressed,
    State.decimatedResult, filterIntake, State.afterReset] at h ⊢
  all_goals (repeat' split at h)
  all_goals first | (cases h; done) | skip
  all_goals (cases h; simp_all)

theorem exec_keeps_inbox {i : Instr} {s t : State} (h : exec i s = .next t) : t.inbox = s.inbox := by
  have hs := exec_inbox i s t s.inbox h
  rw [show ({ s with inbox := s.inbox } : State) = s from rfl, h] at hs
  injection hs with hs; rw [hs]

/-! ### Display codes -/

theorem dispenc_le (level : Int) : (dispenc level).toNat ≤ 9 := by
  unfold dispenc
  split
  · rename_i h; simp only [Config.levelMax] at h; simp; omega
  · decide

end Sys2Proof.Machine
end

