-- ==== Sys2Proof/Laws/Filter.lean ====
section
/-! SUPPORT. The filter's intake, and runs of SAMPLE. -/

namespace Sys2Proof.Machine

theorem filterIntake_frame (k : Nat) (d : RawSample) (s : State) :
    ∃ a c r, filterIntake k d s = { s with acc := a, cnt := c, res := r } := by
  unfold filterIntake; dsimp only; split
  · exact ⟨_, _, _, rfl⟩
  · exact ⟨_, _, s.res, rfl⟩

theorem sum_payloads_le (ds : List RawSample) : (ds.map uval).sum ≤ 4095 * ds.length := by
  induction ds with
  | nil => simp
  | cons d ds ih => have := d.isLt; simp at *; omega

theorem execAll_append (xs ys : List Instr) (s : State) : execAll (xs ++ ys) s =
    match execAll xs s with
    | .next t => execAll ys t
    | .fault f => .fault f
    | .refused r => .refused r := by
  induction xs generalizing s with
  | nil => rfl
  | cons x xs ih =>
    simp only [List.cons_append, execAll]
    cases exec x s <;> simp [ih]

/-- Samples taken one after another are intakes. -/
theorem execAll_samples (ds : List RawSample) (s : State) (h : s.sen = true) :
    execAll (ds.map .sample) s = .next (ds.foldl (fun t d => filterIntake 8 d t) s) := by
  induction ds generalizing s with
  | nil => rfl
  | cons d ds ih =>
    simp only [List.map_cons, execAll, exec, execSample, h, whenEnabled_true, List.foldl_cons]
    apply ih
    simpa using h

/-- The filter does the same in any two states with the same ACC, CNT and RES. -/
theorem intakes_frame (ds : List RawSample) : ∀ s u : State, u.acc = s.acc → u.cnt = s.cnt → u.res = s.res →
    ds.foldl (fun t d => filterIntake 8 d t) u =
      { u with acc := (ds.foldl (fun t d => filterIntake 8 d t) s).acc
               cnt := (ds.foldl (fun t d => filterIntake 8 d t) s).cnt
               res := (ds.foldl (fun t d => filterIntake 8 d t) s).res } := by
  induction ds with
  | nil => intro s u h1 h2 h3; simp [← h1, ← h2, ← h3]
  | cons d ds ih =>
    intro s u h1 h2 h3
    simp only [List.foldl_cons]
    rw [ih (filterIntake 8 d s) (filterIntake 8 d u)]
    · simp only [filterIntake, h1, h2]; split <;> rfl
    · simp only [filterIntake, h1, h2]; split <;> rfl
    · simp only [filterIntake, h1, h2]; split <;> simp
    · simp only [filterIntake, h1, h2]; split <;> simp [h3]

/-! ### Samples among other operations -/

@[simp] theorem payloads_sample (d : RawSample) (ops : List Instr) :
    payloads (.sample d :: ops) = d :: payloads ops := rfl

@[simp] theorem withoutSamples_sample (d : RawSample) (ops : List Instr) :
    withoutSamples (.sample d :: ops) = withoutSamples ops := rfl

theorem payloads_other {i : Instr} (h : samplePayload? i = none) (ops : List Instr) :
    payloads (i :: ops) = payloads ops := by simp [payloads, h]

theorem withoutSamples_other {i : Instr} (h : samplePayload? i = none) (ops : List Instr) :
    withoutSamples (i :: ops) = i :: withoutSamples ops := by simp [withoutSamples, h]

theorem eq_sample_of_payload {i : Instr} {d : RawSample} (h : samplePayload? i = some d) : i = .sample d := by
  cases i <;> simp [samplePayload?] at h
  rw [h]

/-- An operation that neither reads ACC, CNT or RES nor clears SEN, between the start and the end of a calibration run. -/
abbrev isFilterBystander (i : Instr) : Prop :=
  i ∈ ([.dlydone, .cMin0, .btn true, .btn false, .cMinw, .cMax0, .cMaxw, .cChk, .cDone, .mClr, .mResm] : List Instr)

theorem bystander_next {i : Instr} (h : isFilterBystander i) {u t : State} (f : State) (hs : u.sen = true)
    (hx : exec i u = .next t) :
    t.sen = true ∧ exec i { u with acc := f.acc, cnt := f.cnt, res := f.res } =
      .next { t with acc := f.acc, cnt := f.cnt, res := f.res } := by
  simp only [isFilterBystander, List.mem_cons, List.not_mem_nil, or_false] at h
  rcases h with rfl | rfl | rfl | rfl | rfl | rfl | rfl | rfl | rfl | rfl | rfl
  all_goals simp only [exec, execDlydone, execCMin0, execBtn, execCMinw, execCMax0, execCMaxw, execCChk, execCDone, execMClr,
    execMResm, whenPhase, hold, State.goto, State.pressed] at hx ⊢
  all_goals (repeat' split at hx)
  all_goals (injection hx with hx; subst hx; simp_all)

/-- Bystanders with samples among them, while SEN = 1: the bystanders do what they do without samples, the filter takes the
samples. -/
theorem execAll_bystanders (ops : List Instr) : ∀ u f t : State, (∀ i ∈ withoutSamples ops, isFilterBystander i) →
    u.sen = true → execAll (withoutSamples ops) u = .next t →
    let g := (payloads ops).foldl (fun t d => filterIntake 8 d t) f
    execAll ops { u with acc := f.acc, cnt := f.cnt, res := f.res } =
      .next { t with acc := g.acc, cnt := g.cnt, res := g.res } := by
  induction ops with
  | nil => intro u f t _ _ h; cases h; rfl
  | cons i ops ih =>
    intro u f t hf hs h
    cases hp : samplePayload? i with
    | some d =>
      obtain rfl := eq_sample_of_payload hp
      have e : exec (.sample d) { u with acc := f.acc, cnt := f.cnt, res := f.res } =
          .next { u with acc := (filterIntake 8 d f).acc, cnt := (filterIntake 8 d f).cnt,
                         res := (filterIntake 8 d f).res } := by
        simp only [exec, execSample, hs, whenEnabled_true, filterIntake]
        split <;> rfl
      simp only [execAll, e, payloads_sample, List.foldl_cons]
      exact ih u (filterIntake 8 d f) t hf hs h
    | none =>
      rw [withoutSamples_other hp] at hf h
      simp only [execAll] at h
      cases hx : exec i u with
      | next v =>
        rw [hx] at h
        obtain ⟨h1, h2⟩ := bystander_next (hf i (by simp)) f hs hx
        simp only [execAll, h2, payloads_other hp]
        exact ih v f t (fun j hj => hf j (by simp [hj])) h1 h
      | fault x => rw [hx] at h; cases h
      | refused x => rw [hx] at h; cases h

end Sys2Proof.Machine
end

