-- ==== Sys2Proof/Laws/PerInstr.lean ====
section
/-! SUPPORT. Per operation: what kind of selector it has (30_encoding.md R80, R85, R86). -/

namespace Sys2Proof.Laws.SelectorKind

/-- A sequencer operation's selector is a phase code of the table, any other operation's is not a phase code. -/
def Statement (i : Instr) : Prop :=
  i.wf = true ∧
    (i.isSequencer = true → ∃ code : PhaseCode, encode i = .seq code ∧ code ≠ 0x07 ∧ code.toNat ≤ 0x16) ∧
    (i.isSequencer = false → ∀ code : PhaseCode, encode i ≠ .seq code)

theorem mSusp : Statement .mSusp := ⟨rfl, fun _ => ⟨_, rfl, by decide, by decide⟩, nofun⟩
theorem mRead : Statement .mRead := ⟨rfl, fun _ => ⟨_, rfl, by decide, by decide⟩, nofun⟩
theorem mShow : Statement .mShow := ⟨rfl, fun _ => ⟨_, rfl, by decide, by decide⟩, nofun⟩
theorem mReq : Statement .mReq := ⟨rfl, fun _ => ⟨_, rfl, by decide, by decide⟩, nofun⟩
theorem mClr : Statement .mClr := ⟨rfl, fun _ => ⟨_, rfl, by decide, by decide⟩, nofun⟩
theorem mResm : Statement .mResm := ⟨rfl, fun _ => ⟨_, rfl, by decide, by decide⟩, nofun⟩
theorem mWait : Statement .mWait := ⟨rfl, fun _ => ⟨_, rfl, by decide, by decide⟩, nofun⟩
theorem cInd : Statement .cInd := ⟨rfl, fun _ => ⟨_, rfl, by decide, by decide⟩, nofun⟩
theorem cMask : Statement .cMask := ⟨rfl, fun _ => ⟨_, rfl, by decide, by decide⟩, nofun⟩
theorem cDly1 : Statement .cDly1 := ⟨rfl, fun _ => ⟨_, rfl, by decide, by decide⟩, nofun⟩
theorem cMin0 : Statement .cMin0 := ⟨rfl, fun _ => ⟨_, rfl, by decide, by decide⟩, nofun⟩
theorem cMinw : Statement .cMinw := ⟨rfl, fun _ => ⟨_, rfl, by decide, by decide⟩, nofun⟩
theorem cMind : Statement .cMind := ⟨rfl, fun _ => ⟨_, rfl, by decide, by decide⟩, nofun⟩
theorem cMins : Statement .cMins := ⟨rfl, fun _ => ⟨_, rfl, by decide, by decide⟩, nofun⟩
theorem cDly2 : Statement .cDly2 := ⟨rfl, fun _ => ⟨_, rfl, by decide, by decide⟩, nofun⟩
theorem cMax0 : Statement .cMax0 := ⟨rfl, fun _ => ⟨_, rfl, by decide, by decide⟩, nofun⟩
theorem cMaxw : Statement .cMaxw := ⟨rfl, fun _ => ⟨_, rfl, by decide, by decide⟩, nofun⟩
theorem cMaxd : Statement .cMaxd := ⟨rfl, fun _ => ⟨_, rfl, by decide, by decide⟩, nofun⟩
theorem cMaxs : Statement .cMaxs := ⟨rfl, fun _ => ⟨_, rfl, by decide, by decide⟩, nofun⟩
theorem cChk : Statement .cChk := ⟨rfl, fun _ => ⟨_, rfl, by decide, by decide⟩, nofun⟩
theorem cDly3 : Statement .cDly3 := ⟨rfl, fun _ => ⟨_, rfl, by decide, by decide⟩, nofun⟩
theorem cDone : Statement .cDone := ⟨rfl, fun _ => ⟨_, rfl, by decide, by decide⟩, nofun⟩

theorem sample (d : RawSample) : Statement (.sample d) :=
  ⟨by have := d.isLt; simp [Instr.wf]; omega, nofun, fun _ _ => nofun⟩
theorem poll : Statement .poll := ⟨rfl, nofun, fun _ _ => nofun⟩
theorem dlydone : Statement .dlydone := ⟨rfl, nofun, fun _ _ => nofun⟩
theorem reset : Statement .reset := ⟨rfl, nofun, fun _ _ => nofun⟩
theorem btn (v : Bool) : Statement (.btn v) := ⟨rfl, nofun, fun _ _ => nofun⟩

end Sys2Proof.Laws.SelectorKind
end

