-- ==== Sys2Proof/Laws/Run.lean ====
section
/-! SUPPORT. Runs of the machine and runs of traces, one step at a time. -/

namespace Sys2Proof.Machine

theorem core_run_succ {k : Nat} {s t : State} (h : step s = .next t) :
    Sys2Proof.core.run (k + 1) s = Sys2Proof.core.run k t := by
  have key : ∀ (M : Host.Core) (s t : M.State), M.step s = .next t → M.run (k + 1) s = M.run k t := by
    intro M s t h; simp only [Host.Core.run, h]
  exact key Sys2Proof.core s t h

/-- A run from a reachable state ends in one. -/
theorem reachable_run {s t : State} (h : Reachable s) :
    ∀ {k : Nat}, Sys2Proof.core.run k s = .next t → Reachable t := by
  intro k
  induction k generalizing s with
  | zero => intro hr; cases hr; exact h
  | succ k ih =>
    intro hr
    cases hs : step s with
    | next u => rw [core_run_succ hs] at hr; exact ih (h.step hs) hr
    | fault f =>
      have key : ∀ (M : Host.Core) (s t : M.State) (f), M.step s = .fault f → M.run (k + 1) s ≠ .next t := by
        intro M s t f h; simp [Host.Core.run, h]
      exact absurd hr (key Sys2Proof.core s t f hs)
    | refused r =>
      have key : ∀ (M : Host.Core) (s t : M.State) (r), M.step s = .refused r → M.run (k + 1) s ≠ .next t := by
        intro M s t r h; simp [Host.Core.run, h]
      exact absurd hr (key Sys2Proof.core s t r hs)

/-- What a run remembers does not change what is reachable: one direction. -/
theorem reachable_of_since {ended : Bool} {s : State} (h : ReachableSince ended s) : Reachable s := by
  induction h with
  | start level moments k => exact .start level moments k
  | step _ ht ih => exact ih.step ht

/-- A trace in error stays in error. -/
theorem traceError_stays (ls : List TraceLine) (s : State) :
    (ls.map TraceItem.line).foldl (fun r item => performItem item r) (.traceError s) = .traceError s := by
  induction ls with
  | nil => rfl
  | cons l ls ih => simpa [performItem, performLine] using ih

end Sys2Proof.Machine
end

