-- ==== Sys2Proof/Laws/Scaler.lean ====
section
/-! SUPPORT. The Scaler by the sign of its divisor, and the division of 41_scaler.md R123. -/

namespace Sys2Proof.Machine

/-- The floor of the exact rational is Int.fdiv. -/
theorem floor_div_eq_fdiv (a b : Int) : ⌊((a : Int) : ℚ) / ((b : Int) : ℚ)⌋ = Int.fdiv a b := by
  have pos : ∀ a b : Int, 0 ≤ b → ⌊((a : Int) : ℚ) / ((b : Int) : ℚ)⌋ = Int.fdiv a b := by
    intro a b hb
    obtain ⟨n, rfl⟩ := Int.eq_ofNat_of_zero_le hb
    rw [Int.fdiv_eq_ediv_of_nonneg _ hb]
    exact_mod_cast Rat.floor_intCast_div_natCast a n
  rcases le_total 0 b with hb | hb
  · exact pos a b hb
  · have := pos (-a) (-b) (by omega)
    rw [Int.neg_fdiv_neg] at this
    rw [← this]; push_cast; rw [neg_div_neg_eq]

theorem scale_empty (m lo : Int) : scale m lo lo = .error .divZero := if_pos rfl

theorem scale_ok {lo hi : Int} (h : hi ≠ lo) (m : Int) : ∃ level, scale m lo hi = .ok level := by
  simp [scale, h]

theorem scale_proper {lo hi : Int} (h : lo < hi) (m : Int) :
    scale m lo hi = .ok (9 * (min m hi - lo) / (hi - lo)).toNat := by
  have h1 : hi ≠ lo := by omega
  simp only [scale, h1, if_false, Config.levelMax]
  rw [Int.fdiv_eq_ediv_of_nonneg _ (by omega)]
  congr 1
  unfold clampNegative; split <;> simp_all <;> omega

theorem scale_inverted {lo hi : Int} (h : hi < lo) (m : Int) :
    scale m lo hi = .ok (9 * (lo - min m hi) / (lo - hi)).toNat := by
  have h1 : hi ≠ lo := by omega
  simp only [scale, h1, if_false, Config.levelMax]
  have e : Int.fdiv (((9 : ℕ) : Int) * (min m hi - lo)) (hi - lo) = 9 * (lo - min m hi) / (lo - hi) := by
    rw [← Int.neg_fdiv_neg, Int.fdiv_eq_ediv_of_nonneg _ (by omega)]
    congr 1 <;> push_cast <;> ring
  rw [e]
  congr 1
  unfold clampNegative; split <;> simp_all <;> omega

theorem bmod_of_small (x : Int) (n : Nat) (h1 : -(2 ^ n : Nat) ≤ x) (h2 : x < (2 ^ n : Nat)) : x.bmod (2 ^ (n + 1)) = x := by
  apply Int.bmod_eq_of_le <;> simp [pow_succ] at * <;> omega

end Sys2Proof.Machine
end

