-- ==== Sys2Proof/Tests/Slice0.lean ====
section
/-! SUPPORT. Tests with expected values from the spec's own tables and vectors (30_encoding.md, 95_test_vectors.md), and a
witness for the hypotheses of every statement. -/

namespace Sys2Proof.Tests.Slice0

open Sys2Proof Sys2Proof.Machine

/-! ### Well-formedness: the ill-formed term of each check is refused (R92) -/

theorem test_event_line_refuses_a_sequencer_operation : (TraceLine.event .mRead).wf = false := by decide

theorem test_named_step_refuses_an_event : (TraceLine.stepNamed .poll).wf = false := by decide

theorem test_item_refuses_an_ill_formed_line : (TraceItem.line (.event .cDone)).wf = false := by decide

theorem test_wf_lines :
    (TraceLine.event (.sample 4095)).wf = true ∧ (TraceLine.stepNamed .cDone).wf = true ∧ TraceLine.step.wf = true :=
      by decide

/-! ### Decoding: the words of R85, R86, R80 and R94, bit by bit -/

theorem test_decode_mSusp : decode (.seq 0b00000) = .ok .mSusp := rfl

theorem test_decode_mRead : decode (.seq 0b00001) = .ok .mRead := rfl

theorem test_decode_mShow : decode (.seq 0b00010) = .ok .mShow := rfl

theorem test_decode_mReq : decode (.seq 0b00011) = .ok .mReq := rfl

theorem test_decode_mClr : decode (.seq 0b00100) = .ok .mClr := rfl

theorem test_decode_mResm : decode (.seq 0b00101) = .ok .mResm := rfl

theorem test_decode_mWait : decode (.seq 0b00110) = .ok .mWait := rfl

theorem test_decode_cInd : decode (.seq 0b01000) = .ok .cInd := rfl

theorem test_decode_cMask : decode (.seq 0b01001) = .ok .cMask := rfl

theorem test_decode_cDly1 : decode (.seq 0b01010) = .ok .cDly1 := rfl

theorem test_decode_cMin0 : decode (.seq 0b01011) = .ok .cMin0 := rfl

theorem test_decode_cMinw : decode (.seq 0b01100) = .ok .cMinw := rfl

theorem test_decode_cMind : decode (.seq 0b01101) = .ok .cMind := rfl

theorem test_decode_cMins : decode (.seq 0b01110) = .ok .cMins := rfl

theorem test_decode_cDly2 : decode (.seq 0b01111) = .ok .cDly2 := rfl

theorem test_decode_cMax0 : decode (.seq 0b10000) = .ok .cMax0 := rfl

theorem test_decode_cMaxw : decode (.seq 0b10001) = .ok .cMaxw := rfl

theorem test_decode_cMaxd : decode (.seq 0b10010) = .ok .cMaxd := rfl

theorem test_decode_cMaxs : decode (.seq 0b10011) = .ok .cMaxs := rfl

theorem test_decode_cChk : decode (.seq 0b10100) = .ok .cChk := rfl

theorem test_decode_cDly3 : decode (.seq 0b10101) = .ok .cDly3 := rfl

theorem test_decode_cDone : decode (.seq 0b10110) = .ok .cDone := rfl

theorem test_decode_unassigned :
    decode (.seq 0b00111) = .error (.unassignedPhase 0x07) ∧ decode (.seq 0b10111) = .error (.unassignedPhase 0x17) ∧
      decode (.seq 0b11111) = .error (.unassignedPhase 0x1F) := ⟨rfl, rfl, rfl⟩

theorem test_decode_sample :
    strobesOf 0b0001 = [.smpTrig] ∧ decode (.evt .smpTrig 4095) = .ok (.sample 4095) := ⟨rfl, rfl⟩

theorem test_decode_poll : strobesOf 0b0010 = [.pollTrig] ∧ decode (.evt .pollTrig 7) = .ok .poll := ⟨rfl, rfl⟩

theorem test_decode_dlydone :
    strobesOf 0b0100 = [.dlyDone] ∧ decode (.evt .dlyDone 7) = .ok .dlydone := ⟨rfl, rfl⟩

theorem test_decode_reset : strobesOf 0b1000 = [.rst] ∧ decode (.evt .rst 7) = .ok .reset := ⟨rfl, rfl⟩

theorem test_decode_btn :
    decode (.lvl true) = .ok (.btn true) ∧ decode (.lvl false) = .ok (.btn false) := ⟨rfl, rfl⟩

theorem test_no_event_and_all_events :
    strobesOf 0b0000 = [] ∧ strobesOf 0b1111 = [.smpTrig, .pollTrig, .dlyDone, .rst] := by decide

/-- R94's own list of trace words. -/
theorem test_trace_words :
    (TraceLine.event (.sample 2048)).word = 0x1800 ∧ (TraceLine.event .poll).word = 0x2000 ∧
      (TraceLine.event .dlydone).word = 0x4000 ∧ (TraceLine.event .reset).word = 0x8000 ∧
      (TraceLine.event (.btn false)).word = 0x0000 ∧ (TraceLine.event (.btn true)).word = 0x0001 ∧
      TraceLine.step.word = 0xF000 := by decide

theorem test_words_of_no_line :
    decodeTraceWord 0x3000 = none ∧ decodeTraceWord 0x0002 = none ∧ decodeTraceWord 0xF001 = none ∧
      decodeTraceWord 0x2001 = none := by decide

theorem test_table_words :
    decodeTableWord 8 0x16 = some .cDone ∧ decodeTableWord 5 0x0B = some .cMin0 ∧ decodeTableWord 8 0x07 = none ∧
      decodeTableWord 8 0x20 = none ∧ decodeTableWord 4 0x8 = some .reset ∧ decodeTableWord 4 0x1 = some (.sample 0) ∧
      decodeTableWord 4 0x3 = none ∧ decodeTableWord 16 0x1FFF = some (.sample 4095) ∧
      decodeTableWord 16 0x0001 = some (.btn true) ∧ decodeTableWord 16 0xF000 = none ∧
      decodeTableWord 1 0 = some (.btn false) ∧ decodeTableWord 1 1 = some (.btn true) ∧ decodeTableWord 1 2 = none := by
  decide

theorem test_step_runs_the_fetch_word :
    step (State.reset.withFetchWord 8 0x08) = .next { State.reset with ind := true, seq := 0x09 } := rfl

theorem test_step_runs_the_trace_word :
    step (State.reset.withFetchWord 16 0x1064) = .next { State.reset with acc := 100, cnt := 255 } := rfl

theorem test_step_runs_the_event_vector :
    step ({ State.reset with seq := 0x06 }.withFetchWord 4 0x4) = .next State.reset := rfl

/-! ### Operations: the vectors of 95_test_vectors.md, by their ids -/

/-- The reset state at another phase. -/
def atPhase (code : PhaseCode) : State := { State.reset with seq := code }

theorem test_F7_sample_discards_the_fraction :
    exec (.sample 1) { State.reset with acc := 819000, cnt := 1 } =
      .next { State.reset with res := 3199 } := rfl

theorem test_F12_count_wraps :
    exec (.sample 9) { State.reset with cnt := 0, res := 3 } =
      .next { State.reset with acc := 9, cnt := 65535, res := 3 } := rfl

theorem test_I1_poll :
    exec .poll { State.reset with btn := true } =
      .next { State.reset with btn := true, req := true } := rfl

theorem test_I5_poll_dropped :
    exec .poll { State.reset with btn := true, pen := false } =
      .next { State.reset with btn := true, pen := false } := rfl

theorem test_I6_btn :
    exec (.btn true) { State.reset with btn := false } =
      .next { State.reset with btn := true } := rfl

theorem test_I8_dlydone :
    exec .dlydone { State.reset with seq := 0x12 } =
      .next { State.reset with seq := 0x13 } := rfl

theorem test_I10_dlydone_ignored_at_a_wait :
    exec .dlydone { State.reset with seq := 0x0C } =
      .next { State.reset with seq := 0x0C } := rfl

theorem test_M1_mSusp :
    exec .mSusp { State.reset with seq := 0x00 } =
      .next { State.reset with sen := false, seq := 0x01 } := rfl

theorem test_M2_mRead :
    exec .mRead { State.reset with seq := 0x01, res := 2048 } =
      .next { State.reset with res := 2048, meas := 2048, seq := 0x02 } := rfl

theorem test_M4_mShow_faults :
    exec .mShow { State.reset with seq := 0x02, meas := 1500, min := 1500, max := 1500, disp := 0b1001 } =
      .fault .divZero := rfl

theorem test_M5_mShow_inverted :
    exec .mShow { State.reset with seq := 0x02, min := 3000, max := 1000 } =
      .next { State.reset with min := 3000, max := 1000, disp := 0b1000, seq := 0x03 } := rfl

theorem test_M9_mReq_calls :
    exec .mReq { State.reset with seq := 0x03, req := true, rqc := 1 } =
      .next { State.reset with req := true, rqc := 2, cst := 1, seq := 0x08 } := rfl

theorem test_M11_mReq_wraps :
    exec .mReq { State.reset with seq := 0x03, req := true, rqc := 255 } =
      .next { State.reset with req := true, rqc := 0, seq := 0x04 } := rfl

theorem test_M12_mClr :
    exec .mClr { State.reset with seq := 0x04, req := true, rqc := 1 } =
      .next { State.reset with rqc := 1, seq := 0x05 } := rfl

theorem test_M13_mClr_disarms :
    exec .mClr { State.reset with seq := 0x04, req := true, rqc := 2 } =
      .next { State.reset with seq := 0x05 } := rfl

theorem test_M14_mResm :
    exec .mResm { State.reset with seq := 0x05, sen := false } =
      .next { State.reset with seq := 0x06 } := rfl

theorem test_M15_step_at_a_hold_is_an_error : stepLine (atPhase 0x06) = .traceError (atPhase 0x06) := rfl

/-- RUN k with a fault before k operations: faulted (log entry 13). -/
theorem test_runExactly_with_a_fault_is_faulted :
    performItem (.runExactly 2) (.running { atPhase 0x02 with min := 4095 }) =
      .faulted .divZero { atPhase 0x02 with min := 4095 } := rfl

theorem test_K1_cInd :
    exec .cInd { State.reset with seq := 0x08 } =
      .next { State.reset with ind := true, seq := 0x09 } := rfl

theorem test_K2_cMask :
    exec .cMask { State.reset with seq := 0x09, sen := false } =
      .next { State.reset with pen := false, seq := 0x0A } := rfl

theorem test_K3_cMin0 :
    exec .cMin0 { State.reset with seq := 0x0B, cst := 1, disp := 0b0101 } =
      .next { State.reset with cst := 1, seq := 0x0C } := rfl

theorem test_K4_cMin0_skips :
    exec .cMin0 { State.reset with seq := 0x0B, cst := 2, disp := 0b0101 } =
      .next { State.reset with cst := 2, disp := 0b0101, seq := 0x0F } := rfl

theorem test_K5_cMinw_holds :
    exec .cMinw { State.reset with seq := 0x0C } =
      .next { State.reset with seq := 0x0C } := rfl

theorem test_K6_cMinw :
    exec .cMinw { State.reset with seq := 0x0C, btn := true } =
      .next { State.reset with seq := 0x0D, btn := true } := rfl

theorem test_K7_cMins :
    exec .cMins { State.reset with seq := 0x0E, res := 800, cst := 1 } =
      .next { State.reset with res := 800, min := 800, cst := 2, seq := 0x0F } := rfl

theorem test_K8_cMax0 :
    exec .cMax0 { State.reset with seq := 0x10, cst := 2 } =
      .next { State.reset with cst := 2, disp := 0b1001, seq := 0x11 } := rfl

theorem test_K9_cMax0_skips :
    exec .cMax0 { State.reset with seq := 0x10, disp := 0b0101 } =
      .next { State.reset with disp := 0b0101, seq := 0x14 } := rfl

theorem test_K10_cMaxw :
    exec .cMaxw { State.reset with seq := 0x11, btn := true } =
      .next { State.reset with seq := 0x12, btn := true } := rfl

theorem test_K11_cMaxs :
    exec .cMaxs { State.reset with seq := 0x13, res := 3000, cst := 2 } =
      .next { State.reset with res := 3000, max := 3000, seq := 0x14 } := rfl

theorem test_K13_cChk_clamps :
    exec .cChk { State.reset with seq := 0x14, cst := 3 } =
      .next { State.reset with seq := 0x15 } := rfl

theorem test_K14_cChk_leaves_the_enumeration :
    exec .cChk { State.reset with seq := 0x14, cst := 1 } =
      .next { State.reset with cst := 1, seq := 0x15 } := rfl

theorem test_K15_cDone :
    exec .cDone { State.reset with seq := 0x16, ind := true, pen := false } =
      .next { State.reset with seq := 0x04 } := rfl

theorem test_X1_reset :
    exec .reset { State.reset with min := 800, max := 3000, meas := 3000, seq := 0x06, btn := true } =
      .next { State.reset with btn := true } := rfl

theorem test_X2_reset_ends_a_faulted_run :
    performLine (.event .reset) (.faulted .divZero (atPhase 0x02)) = .running State.reset := rfl

theorem test_X3_unassigned_phase_faults :
    step (atPhase 0x07) = .fault (.seq 0x07) ∧ step (atPhase 0x1F) = .fault (.seq 0x1F) := ⟨rfl, rfl⟩

/-! ### The Scaler and the display code: 95_test_vectors.md section 2.2 -/

theorem test_V10_scale : scale (998) (610) (4095) = .ok 1 := rfl

theorem test_V21_scale : scale (0) (100) (50) = .ok 18 := rfl

theorem test_V24_scale : scale (-32768) (32767) (32766) = .ok 589815 := rfl

theorem test_V20_scale_faults : scale 5 5 5 = .error .divZero := rfl

theorem test_V24_fixed_width : scaleFixed (-32768) 32767 32766 = .ok 589815 := rfl

theorem test_V7_fixed_width : scaleFixed 609 610 4095 = .ok 0 ∧ floorQuotient21 (-9) 3485 = -1 := ⟨rfl, rfl⟩

theorem test_V27_dispenc :
    dispenc (-1) = 0b1000 ∧ dispenc 10 = 0b1000 ∧ dispenc 589815 = 0b1000 ∧
      dispTuple (dispenc 9) = (true, false, false, true) := by decide

/-! ### Simultaneous events (R86, R207) -/

/-- Every strobe, a release of the button and the sequencer's turn in one moment. -/
def busy : Moment := { strobes := 0b1111, data := 5, level := some false, seqTurn := true }

theorem test_reset_is_no_candidate_while_another_event_waits :
    busy.candidates = [.strobe .smpTrig, .strobe .pollTrig, .strobe .dlyDone, .level false, .sequencer] := by decide

theorem test_reset_is_the_last_candidate :
    Moment.candidates { strobes := 0b1000, data := 5, level := none, seqTurn := false } = [.strobe .rst] := by decide

/-! ### Witnesses: states and operands that meet the hypotheses of each statement -/

theorem witness_DecodeOfEncodeIsIdentity : (Instr.sample 4095).wf = true ∧ Instr.cDone.wf = true := by decide

theorem witness_TraceWordStandsForItsLine :
    (TraceLine.event (.sample 4095)).wf = true ∧ (TraceLine.event (.btn false)).wf = true := by decide

theorem witness_TraceLineHasOneWord :
    decodeTraceWord 0x1FFF = some (.event (.sample 4095)) ∧ decodeTraceWord 0x0000 = some (.event (.btn false)) ∧
      decodeTraceWord 0xF000 = some .step := by decide

theorem witness_UnassignedPhaseFaults :
    (atPhase 0x07).seq = 0x07 ∧ 0x17 ≤ uval (atPhase 0x17).seq ∧ 0x17 ≤ uval (atPhase 0x1F).seq := by decide

theorem witness_SampleAccumulatesAndPublishes :
    (State.reset.sen = true ∧ State.reset.cnt - 1 ≠ 0) ∧
      (∃ s : State, s.sen = true ∧ s.cnt - 1 = 0) ∧ (∃ s : State, s.sen = true ∧ s.cnt = 0 ∧ s.cnt - 1 ≠ 0) ∧
      ∃ s : State, s.sen = false := ⟨by decide, ⟨{ State.reset with cnt := 1 }, by decide⟩,
        ⟨{ State.reset with cnt := 0 }, by decide⟩, ⟨{ State.reset with sen := false }, rfl⟩⟩

theorem witness_ShiftIsIntegerDivision :
    (15 ≤ 15) ∧ uval (0x7FFFFFFF : Acc) < 65536 * 2 ^ 15 ∧ (0 ≤ 15) ∧ uval (65535 : Acc) < 65536 * 2 ^ 0 := by decide

theorem witness_MaskedTriggersAreDropped :
    { State.reset with sen := false }.sen = false ∧ { State.reset with pen := false }.pen = false := by decide

theorem witness_PollSetsRequestWhenPressed :
    (State.reset.pen = true ∧ { State.reset with btn := true }.btn = true) ∧ (State.reset.pen = true ∧
      State.reset.btn = false) ∧
      { State.reset with pen := false }.pen = false := by decide

theorem witness_DelayDoneEndsTheDelayPhase :
    (atPhase 0x06).seq = 0x06 ∧ (atPhase 0x0A).seq = 0x0A ∧ (atPhase 0x0D).seq = 0x0D ∧ (atPhase 0x0F).seq = 0x0F ∧
      (atPhase 0x12).seq = 0x12 ∧ (atPhase 0x15).seq = 0x15 ∧
      ((atPhase 0x07).seq ≠ 0x06 ∧ (atPhase 0x07).seq ≠ 0x0A ∧ (atPhase 0x07).seq ≠ 0x0D ∧ (atPhase 0x07).seq ≠ 0x0F ∧
        (atPhase 0x07).seq ≠ 0x12 ∧ (atPhase 0x07).seq ≠ 0x15) := by decide

theorem witness_SuspendAndResumeSampling : (atPhase 0x00).seq = 0x00 ∧ (atPhase 0x05).seq = 0x05 := by decide

theorem witness_ReadCopiesTheResult : (atPhase 0x01).seq = 0x01 := by decide

theorem witness_DelayPhasesHoldAndRequest :
    (atPhase 0x06).seq = 0x06 ∧ (atPhase 0x0A).seq = 0x0A ∧ (atPhase 0x0D).seq = 0x0D ∧ (atPhase 0x0F).seq = 0x0F ∧
      (atPhase 0x12).seq = 0x12 ∧ (atPhase 0x15).seq = 0x15 := by decide

theorem witness_CalibrationEntersAndLeaves :
    (atPhase 0x08).seq = 0x08 ∧ (atPhase 0x09).seq = 0x09 ∧ (atPhase 0x16).seq = 0x16 := by decide

theorem witness_CalibrationAcquiresTheRange : (atPhase 0x0E).seq = 0x0E ∧ (atPhase 0x13).seq = 0x13 := by decide

theorem witness_OutputsFollowTheState :
    (atPhase 0x06).seq = 0x06 ∧ (atPhase 0x0A).seq = 0x0A ∧ (atPhase 0x0D).seq = 0x0D ∧
      (atPhase 0x0C).outputs.dlyReq = false := by decide

theorem witness_ShowDisplaysTheScaledLevel :
    (∃ s : State, s.seq = 0x02 ∧ s.max.toInt = s.min.toInt) ∧ (∃ s : State, s.seq = 0x02 ∧
      s.max.toInt ≠ s.min.toInt) ∧
      ∃ s : State, s.seq = 0x02 ∧ s.max.toInt < s.min.toInt := ⟨⟨{ atPhase 0x02 with min := 4095 }, by decide⟩,
        ⟨atPhase 0x02, by decide⟩, ⟨{ atPhase 0x02 with max := -32768 }, by decide⟩⟩

theorem witness_RequestArmsThenCalls :
    (∃ s : State, s.seq = 0x03 ∧ s.req = false) ∧
      (∃ s : State, s.seq = 0x03 ∧ s.req = true ∧ ¬ 1 < (s.rqc + 1).toNat) ∧
      (∃ s : State, s.seq = 0x03 ∧ s.req = true ∧ s.rqc = 255 ∧ ¬ 1 < (s.rqc + 1).toNat) ∧
      ∃ s : State, s.seq = 0x03 ∧ s.req = true ∧ 1 < (s.rqc + 1).toNat :=
        ⟨⟨atPhase 0x03, by decide⟩, ⟨{ atPhase 0x03 with req := true }, by decide⟩,
        ⟨{ atPhase 0x03 with req := true, rqc := 255 }, by decide⟩,
    ⟨{ atPhase 0x03 with req := true, rqc := 1 }, by decide⟩⟩

theorem witness_ClearConsumesTheRequest :
    (∃ s : State, s.seq = 0x04 ∧ 1 < s.rqc.toNat) ∧ ∃ s : State, s.seq = 0x04 ∧ ¬ 1 < s.rqc.toNat :=
      ⟨⟨{ atPhase 0x04 with rqc := 2 }, by decide⟩, ⟨{ atPhase 0x04 with rqc := 1 }, by decide⟩⟩

theorem witness_PromptsAreShownOrSkipped :
    (∃ s : State, s.seq = 0x0B ∧ s.cst = 1) ∧ (∃ s : State, s.seq = 0x0B ∧ s.cst ≠ 1) ∧
      (∃ s : State, s.seq = 0x10 ∧ s.cst = 2) ∧ ∃ s : State, s.seq = 0x10 ∧ s.cst ≠ 2 :=
        ⟨⟨{ atPhase 0x0B with cst := 1 }, by decide⟩, ⟨{ atPhase 0x0B with cst := 3 }, by decide⟩,
        ⟨{ atPhase 0x10 with cst := 2 }, by decide⟩,
    ⟨{ atPhase 0x10 with cst := 3 }, by decide⟩⟩

theorem witness_WaitsBlockUntilPressed :
    (∃ s : State, s.seq = 0x0C ∧ s.btn = true) ∧ (∃ s : State, s.seq = 0x0C ∧ s.btn = false) ∧
      (∃ s : State, s.seq = 0x11 ∧ s.btn = true) ∧ ∃ s : State, s.seq = 0x11 ∧ s.btn = false :=
        ⟨⟨{ atPhase 0x0C with btn := true }, by decide⟩, ⟨atPhase 0x0C, by decide⟩,
        ⟨{ atPhase 0x11 with btn := true }, by decide⟩,
    ⟨atPhase 0x11, by decide⟩⟩

theorem witness_OutOfRangeStateIsForcedToIdle :
    (∃ s : State, s.seq = 0x14 ∧ 2 < s.cst.toNat) ∧ ∃ s : State, s.seq = 0x14 ∧ s.cst.toNat ≤ 2 :=
      ⟨⟨{ atPhase 0x14 with cst := 3 }, by decide⟩, ⟨{ atPhase 0x14 with cst := 2 }, by decide⟩⟩

theorem witness_RoutineEnteredOutsideAwaitingMin :
    (∃ s : State, s.seq = 0x08 ∧ s.cst = 0) ∧ (∃ s : State, s.seq = 0x08 ∧ s.cst = 3) ∧
      ∃ s : State, s.seq = 0x08 ∧ s.cst = 2 ∧ s.btn = true := ⟨⟨atPhase 0x08, by decide⟩,
        ⟨{ atPhase 0x08 with cst := 3 }, by decide⟩, ⟨{ atPhase 0x08 with cst := 2, btn := true }, by decide⟩⟩

theorem witness_PollBeforeClearIsLost : ∃ s : State, s.seq = 0x16 ∧ s.btn = true ∧ 1 < s.rqc.toNat :=
  ⟨{ atPhase 0x16 with btn := true, rqc := 2 }, by decide⟩

theorem witness_LevelRange :
    ∃ m lo hi : Int, -32768 ≤ m ∧ m ≤ 32767 ∧ -32768 ≤ lo ∧ lo ≤ 32767 ∧ -32768 ≤ hi ∧ hi ≤ 32767 ∧ hi < lo :=
      ⟨-32768, 32767, 32766, by decide⟩

theorem witness_LevelRange_proper_and_empty : (-32768 : Int) < 32767 ∧ (32767 : Int) = 32767 := by decide

theorem witness_ScalerProperties :
    ∃ lo hi m n x : Int, lo < hi ∧ m ≤ n ∧ hi < x ∧ m ≤ lo ∧ scale m lo hi = .ok 0 ∧ scale n lo hi = .ok 9 ∧
      scale 1384 lo hi = .ok 1 := ⟨610, 4095, 610, 4095, 4096, by decide, by decide, by decide, by decide, rfl, rfl,
      rfl⟩

theorem witness_InvertedRangeLevels :
    ∃ lo hi m : Int, hi < lo ∧ hi ≤ m ∧ m ≤ hi ∧ m ≤ lo ∧ scale m lo hi = .ok 9 ∧ scale lo lo hi = .ok 9 :=
      ⟨100, 50, 50, by decide, by decide, by decide, by decide, rfl, rfl⟩

theorem witness_FixedWidthScalerIsExact :
    ((5 : Data).toInt = (5 : Data).toInt) ∧ (32766 : Data).toInt ≠ (32767 : Data).toInt ∧
      (-32768 : Data).toInt ≠ (32767 : Data).toInt := by decide

theorem witness_DefaultRangeLevels :
    (997 : Int) ≤ 997 ∧ (998 : Int) ≤ 1384 ∧ (1385 : Int) ≤ 1771 ∧ (1772 : Int) ≤ 2158 ∧ (2159 : Int) ≤ 2546 ∧
      (2547 : Int) ≤ 2933 ∧
      (2934 : Int) ≤ 3320 ∧ (3321 : Int) ≤ 3707 ∧ (3708 : Int) ≤ 4094 ∧ (4095 : Int) ≤ 4095 := by decide

theorem witness_DisplayCodeIsTotalAndInjective :
    ((0 : Int) ≤ 9 ∧ (9 : Int) ≤ 9) ∧ ((-1 : Int) < 0 ∨ (9 : Int) < -1) ∧ ((10 : Int) < 0 ∨ (9 : Int) < 10) ∧
      dispenc 9 = dispenc 9 := by decide

theorem witness_WindowPublishesItsMean :
    (State.reset.sen = true ∧ State.reset.acc = 0 ∧ State.reset.cnt = 256 ∧
      (List.replicate 255 (4095 : RawSample)).length < 256 ∧ (List.replicate 256 (4095 : RawSample)).length = 256) ∧
      ∃ s : State, s.sen = false ∧ s.acc = 0 ∧ s.cnt = 256 :=
  ⟨⟨rfl, rfl, rfl, by rw [List.length_replicate]; decide, List.length_replicate⟩,
    ⟨{ State.reset with sen := false }, rfl, rfl, rfl⟩⟩

theorem witness_WindowOfAnyFactor :
    ∃ (n : Nat) (ds : List RawSample) (s : State), 1 ≤ n ∧ n ≤ 65535 ∧ s.acc = 0 ∧ s.cnt = BitVec.ofNat 16 n ∧
      ds.length = n := ⟨65535, List.replicate 65535 4095, { State.reset with cnt := 65535 }, by decide, by decide,
        rfl, rfl, List.length_replicate⟩

theorem witness_DisplayShowsTheWindowsMean :
    State.reset.sen = true ∧ State.reset.acc = 0 ∧ State.reset.cnt = 256 ∧ State.reset.seq = 0x00 ∧
      State.reset.max ≠ State.reset.min ∧ (List.replicate 256 (2048 : RawSample)).length = 256 :=
  ⟨rfl, rfl, rfl, rfl, by decide, List.length_replicate⟩

theorem witness_IterationWithoutCalibration :
    (State.reset.seq = 0x00 ∧ State.reset.max ≠ State.reset.min ∧ State.reset.req = false) ∧
      { State.reset with req := true }.req = true ∧ State.reset.rqc = 0 := by decide

theorem witness_TwoDetectionsStartCalibration :
    ∃ s : State, s.seq = 0x00 ∧ s.max ≠ s.min ∧ s.req = true ∧ s.rqc = 0 ∧ s.cst = 0 ∧ s.pen = true :=
      ⟨{ State.reset with req := true }, by decide⟩

theorem witness_IterationWithCalibration :
    (∃ s : State, s.seq = 0x00 ∧ s.max ≠ s.min ∧ s.req = true ∧ s.rqc = 1 ∧ s.cst = 0) ∧
      withoutSamples [.sample 1, .mRead, .mShow, .mReq, .cInd, .sample 2] = [.mRead, .mShow, .mReq, .cInd] ∧
      withoutSamples [.sample 3, .dlydone, .cMin0, .btn true, .cMinw, .sample 4, .dlydone, .sample 5] =
        [.dlydone, .cMin0, .btn true, .cMinw, .dlydone] ∧
      withoutSamples [.btn false, .dlydone, .cMax0, .btn true, .cMaxw, .sample 6, .dlydone] =
        [.btn false, .dlydone, .cMax0, .btn true, .cMaxw, .dlydone] ∧
      withoutSamples [.cChk, .sample 7, .dlydone, .cDone, .mClr, .mResm, .sample 8] =
        [.cChk, .dlydone, .cDone, .mClr, .mResm] :=
  ⟨⟨{ State.reset with req := true, rqc := 1 }, by decide⟩, rfl, rfl, rfl, rfl⟩

theorem witness_SequencerReachesAHold :
    isAssigned State.reset.seq = true ∧ isAssigned (atPhase 0x16).seq = true := by decide

theorem witness_StepPerformsTheSelectedOperation :
    fetch State.reset = .run (.seq 0x00) State.reset ∧ decode (.seq 0x00) = .ok .mSusp ∧ State.reset.inbox = [] ∧
      Instr.poll.isSequencer = false := ⟨rfl, rfl, rfl, rfl⟩

theorem witness_SimultaneousEventsResetLast :
    { State.reset with inbox := [busy] }.inbox = [busy] ∧ busy.candidates ≠ [] ∧
      Moment.candidates { strobes := 0, data := 0, level := none, seqTurn := false } = [] ∧
      Source.strobe .rst ∈ (Moment.ofStrobe .rst 0).candidates := by decide

theorem witness_EachEventIsPerformedOnce :
    (Source.strobe .dlyDone ∈ busy.beforeReset ∧ Source.level false ∈ busy.beforeReset ∧
      Source.sequencer ∈ busy.beforeReset ∧ busy.beforeReset ≠ [.sequencer]) ∧
      (Moment.turn.beforeReset = [.sequencer] ∧ Strobe.rst ∉ strobesOf Moment.turn.strobes) ∧
      (Moment.beforeReset { strobes := 0b1001, data := 5, level := none, seqTurn := false } = [.strobe .smpTrig] ∧
        Strobe.rst ∈ strobesOf 0b1001) ∧
      (Moment.ofStrobe .rst 0).candidates = [.strobe .rst] := by decide

theorem witness_EachEventIsPerformedOnce_step :
    step { State.reset with inbox := [.turn] } = .next { State.reset with sen := false, seq := 0x01 } ∧
      step { State.reset with inbox := [{ strobes := 0, data := 0, level := none, seqTurn := false }] } =
        .next State.reset := ⟨rfl, rfl⟩

theorem witness_FaultsAreTheTwoOfTheSpec :
    step { atPhase 0x02 with min := 4095 } = .fault .divZero ∧ step (atPhase 0x17) = .fault (.seq 0x17) := ⟨rfl, rfl⟩

theorem witness_HoldsAreExactlyTheSpecs :
    isAssigned (atPhase 0x11).seq = true ∧ isAssigned (atPhase 0x06).seq = true ∧
      isAssigned State.reset.seq = true := by decide

theorem witness_DisabledOperationChangesNothing :
    Instr.mRead.isSequencer = true ∧ decode (.seq State.reset.seq) = .ok .mSusp ∧ Instr.mSusp ≠ .mRead :=
      ⟨rfl, rfl, by decide⟩

theorem witness_TraceLineIsOneStep :
    performLine .step (.running State.reset) = .running { State.reset with sen := false, seq := 0x01 } ∧
      performLine .step (.running { atPhase 0x02 with min := 4095 }) =
        .faulted .divZero { atPhase 0x02 with min := 4095 } := ⟨rfl, rfl⟩

theorem witness_TraceIsARunOfTheMachine :
    (∀ k f u, runTrace (([TraceLine.event .poll, .step].take k).map .line) State.reset ≠ .faulted f u) ∧
      runTrace ([TraceLine.event .poll, .step].map .line) State.reset =
        .running { State.reset with sen := false, seq := 0x01 } := by
  refine ⟨fun k f u => ?_, rfl⟩
  rcases k with _ | _ | k
  · nofun
  · nofun
  · rw [List.take_of_length_le (by simp)]; nofun

theorem witness_OnlyResetEndsAFaultedRun : TraceLine.step ≠ .event .reset := by decide

theorem witness_OnlySampleReadsAccAndCnt :
    (∀ d, Instr.mSusp ≠ .sample d) ∧ Instr.mSusp ≠ .reset ∧
      exec .mSusp State.reset = .next { State.reset with sen := false, seq := 0x01 } := ⟨nofun, nofun, rfl⟩

theorem witness_OnlySampleReadsAccAndCnt_fault :
    (∀ d, Instr.mShow ≠ .sample d) ∧ Instr.mShow ≠ .reset ∧ exec .mShow { atPhase 0x02 with min := 4095 } =
      .fault .divZero := ⟨nofun, nofun, rfl⟩

theorem witness_MaskWindowFreezesTheResult : ∃ s t : State, s.sen = false ∧ step s = .next t :=
  ⟨{ atPhase 0x01 with sen := false }, _, rfl, rfl⟩

/-- For each register an operation that changes it. -/
theorem witness_WritersOfEachRegister : ∀ p ∈ ([(.sample 100, State.reset),
      (.sample 2048, { State.reset with acc := 522240, cnt := 1 }),
      (.cMins, { atPhase 0x0E with res := 800 }), (.cMaxs, { atPhase 0x13 with res := 800, cst := 2 }),
      (.mRead, { atPhase 0x01 with res := 1 }), (.dlydone, atPhase 0x06), (.poll, { State.reset with btn := true }),
      (.mClr, { atPhase 0x04 with req := true, rqc := 2 }), (.mReq, { atPhase 0x03 with req := true, rqc := 1 }),
      (.cChk, { atPhase 0x14 with cst := 3 }), (.mSusp, State.reset), (.cMask, atPhase 0x09), (.cInd, atPhase 0x08),
      (.mShow, { atPhase 0x02 with meas := 4095 }), (.cMax0, { atPhase 0x10 with cst := 2 }), (.btn true, State.reset)] :
      List (Instr × State)),
    p.1 ≠ .reset ∧ ∃ t, outcomeState (exec p.1 p.2) = some t ∧ t ≠ p.2 := by
  simp only [List.forall_mem_cons, List.not_mem_nil, false_imp_iff, implies_true, and_true]
  refine ⟨?_, ?_, ?_, ?_, ?_, ?_, ?_, ?_, ?_, ?_, ?_, ?_, ?_, ?_, ?_, ?_⟩ <;> exact ⟨by decide, _, rfl, by decide⟩

theorem inv_reset : Inv State.reset := by
  constructor <;> decide

/-- One call of the routine at M_REQ, the acquisitions and RESET, in states that meet the invariant. -/
theorem witness_CalibrationStateMovesForward :
    (Inv { State.reset with seq := 0x03, sen := false, req := true, rqc := 1 } ∧
      step { State.reset with seq := 0x03, sen := false, req := true, rqc := 1 } =
        .next { State.reset with seq := 0x08, sen := false, req := true, rqc := 2, cst := 1 }) ∧
    (Inv { State.reset with seq := 0x0E, pen := false, ind := true, req := true, rqc := 2, cst := 1 } ∧
      step { State.reset with seq := 0x0E, pen := false, ind := true, req := true, rqc := 2, cst := 1 } =
        .next { State.reset with seq := 0x0F, pen := false, ind := true, req := true, rqc := 2, cst := 2, min := 0 }) ∧
    Inv { State.reset with seq := 0x13, pen := false, ind := true, req := true, rqc := 2, cst := 2 } ∧
      step { State.reset with seq := 0x13, pen := false, ind := true, req := true, rqc := 2, cst := 2 } =
        .next { State.reset with seq := 0x14, pen := false, ind := true, req := true, rqc := 2, max := 0 } :=
  ⟨⟨by constructor <;> decide, rfl⟩, ⟨by constructor <;> decide, rfl⟩, by constructor <;> decide, rfl⟩

theorem witness_EveryStepKeepsTheInvariant :
    Inv State.reset ∧ step State.reset = .next { State.reset with sen := false, seq := 0x01 } := ⟨inv_reset, rfl⟩

theorem reachable_reset : Reachable State.reset := .start false [] 0

theorem witness_ReachableStatesKeepTheirBoundsAndGoOn : ∃ s : State, Reachable s ∧ s.seq = 0x01 :=
  ⟨_, .step reachable_reset rfl, rfl⟩

/-- M_SUSP, M_READ, M_SHOW and M_REQ from reset lead to M_RESM with no run ended. -/
theorem witness_EveryIterationStartsCleanAndResumes :
    (Reachable State.reset ∧ State.reset.seq = 0x00) ∧
      ∃ s : State, ReachableSince false s ∧ s.seq = 0x05 :=
  ⟨⟨reachable_reset, rfl⟩, _, .step (.step (.step (.step (.start false [] 0) rfl) rfl) rfl) rfl, rfl⟩

theorem test_runEnded :
    runEnded (atPhase 0x16) (atPhase 0x04) false = true ∧ runEnded (atPhase 0x03) (atPhase 0x04) false = false ∧
      runEnded (atPhase 0x06) (atPhase 0x00) true = false := by decide

end Sys2Proof.Tests.Slice0
end

section
/-! PROOFS. The enable of a sequencer operation (00_scope.md R14, 30_encoding.md R85). -/

namespace Sys2Proof.Machine

/-- Every sequencer operation is one effect guarded by its own row of R85: the code that encodes it, decodes to it and
enables it is the same. -/
theorem exec_sequencer_eq_whenPhase {i : Instr} (h : i.isSequencer = true) (s : State) :
    ∃ code, encode i = .seq code ∧ decode (.seq code) = .ok i ∧ ∃ performed, exec i s = whenPhase code s performed := by
  cases i with
  | sample _ | poll | dlydone | reset | btn _ => cases h
  | _ => exact ⟨_, rfl, rfl, _, rfl⟩

/-- Settles O49: at a code that does not select the operation, the guard that its meaning is wrapped in answers the
unchanged state. -/
theorem disabledOperationChangesNothing : Obligations.DisabledOperationChangesNothing := by
  intro i s hseq hdisabled
  obtain ⟨code, -, hdecode, performed, hexec⟩ := exec_sequencer_eq_whenPhase hseq s
  have helsewhere : s.seq ≠ code := by
    rintro rfl
    exact hdisabled hdecode
  rw [hexec, whenPhase_elsewhere helsewhere]

end Sys2Proof.Machine
end

section
/-! PROOFS. The writers and the readers of the registers, the outputs and the reset values (10_state.md R21 to R23, R37,
R38, R44 to R46). -/

namespace Sys2Proof.Machine

/-! ### Writers, R21 and R37 -/

/-- The state `s` with the registers that R21 lets `i` write, and the level that BTN writes (R43), taken from `u`.
RESET writes every register and leaves the level and the moments to come (R230). -/
def takeWrites (i : Instr) (s u : State) : State :=
  match i with
  | .sample _ => { s with acc := u.acc, cnt := u.cnt, res := u.res }
  | .poll => { s with req := u.req }
  | .btn _ => { s with btn := u.btn }
  | .reset => { u with btn := s.btn, inbox := s.inbox, draws := s.draws }
  | .dlydone | .mWait | .cDly1 | .cMinw | .cMind | .cDly2 | .cMaxw | .cMaxd | .cDly3 => { s with seq := u.seq }
  | .mSusp | .mResm => { s with sen := u.sen, seq := u.seq }
  | .mRead => { s with meas := u.meas, seq := u.seq }
  | .mShow | .cMin0 | .cMax0 => { s with disp := u.disp, seq := u.seq }
  | .mReq => { s with rqc := u.rqc, cst := u.cst, seq := u.seq }
  | .mClr => { s with req := u.req, rqc := u.rqc, seq := u.seq }
  | .cInd => { s with ind := u.ind, seq := u.seq }
  | .cMask => { s with pen := u.pen, sen := u.sen, seq := u.seq }
  | .cMins => { s with min := u.min, cst := u.cst, seq := u.seq }
  | .cMaxs => { s with max := u.max, cst := u.cst, seq := u.seq }
  | .cChk => { s with cst := u.cst, seq := u.seq }
  | .cDone => { s with ind := u.ind, pen := u.pen, seq := u.seq }

theorem takeWrites_self (i : Instr) (s : State) : takeWrites i s s = s := by cases i <;> rfl

/-- A sequencer operation that its phase does not enable writes nothing, so only its effect has to be looked at. -/
theorem takeWrites_of_whenPhase {i : Instr} {code : PhaseCode} {s t : State} {r : Result}
    (h : whenPhase code s r = .next t) (heffect : r = .next t → takeWrites i s t = t) : takeWrites i s t = t := by
  obtain ⟨-, hr⟩ | rfl := whenPhase_next h
  · exact heffect hr
  · exact takeWrites_self i s

theorem showLevel_of_ok {s : State} {level : Nat} (h : scale s.measured s.rangeMin s.rangeMax = .ok level) :
    showLevel s = .next { s with disp := dispenc level, seq := Phase.mReq } := by
  simp only [showLevel, h]

theorem showLevel_of_error {s : State} {f : Fault} (h : scale s.measured s.rangeMin s.rangeMax = .error f) :
    showLevel s = .fault f := by
  simp only [showLevel, h, raise]

/-- Everything M_SHOW's effect can do when it goes on. -/
theorem showLevel_next {s t : State} (h : showLevel s = .next t) :
    ∃ level : Nat, t = { s with disp := dispenc level, seq := Phase.mReq } := by
  cases hscale : scale s.measured s.rangeMin s.rangeMax with
  | ok level => rw [showLevel_of_ok hscale] at h; cases h; exact ⟨level, rfl⟩
  | error f => rw [showLevel_of_error hscale] at h; cases h

theorem observeRequest_frame (s : State) :
    ∃ n c p, observeRequest s = { s with rqc := n, cst := c, seq := p } := by
  unfold observeRequest; dsimp only; split
  · exact ⟨_, _, _, rfl⟩
  · exact ⟨_, s.cst, _, rfl⟩

/-- An operation writes no register but its own of R21. -/
theorem exec_takeWrites {i : Instr} {s t : State} (h : exec i s = .next t) : takeWrites i s t = t := by
  cases i with
  | sample d =>
    obtain ⟨-, rfl⟩ | ⟨-, rfl⟩ := whenEnabled_next h
    · obtain ⟨a, c, r, heq⟩ := filterIntake_frame Config.log2Df d s
      rw [heq]; rfl
    · rfl
  | poll => obtain ⟨-, rfl⟩ | ⟨-, rfl⟩ := whenEnabled_next h <;> rfl
  | dlydone | reset | btn v => cases h; rfl
  | mShow =>
    refine takeWrites_of_whenPhase h fun hr => ?_
    obtain ⟨level, rfl⟩ := showLevel_next hr
    rfl
  | mReq =>
    refine takeWrites_of_whenPhase h fun hr => ?_
    cases hr
    split
    · obtain ⟨n, c, p, heq⟩ := observeRequest_frame s
      rw [heq]; rfl
    · rfl
  | cMin0 | cMax0 =>
    refine takeWrites_of_whenPhase h fun hr => ?_
    cases hr
    split <;> rfl
  | cMinw | cMaxw =>
    refine takeWrites_of_whenPhase h fun hr => ?_
    split at hr <;> cases hr <;> rfl
  | _ =>
    refine takeWrites_of_whenPhase h fun hr => ?_
    cases hr
    rfl

/-- The poll agent writes REQ to 1 only (R37, R141). -/
theorem exec_poll_sets_req {s t : State} (h : exec .poll s = .next t) (hne : t.req ≠ s.req) : t.req = true := by
  obtain ⟨-, rfl⟩ | ⟨-, rfl⟩ := whenEnabled_next h
  · cases hreq : s.req with
    | true => simp [hreq]
    | false => simpa [hreq] using hne
  · exact absurd rfl hne

/-- The sequencer writes REQ to 0 only (R37, R156). -/
theorem exec_mClr_clears_req {s t : State} (h : exec .mClr s = .next t) (hne : t.req ≠ s.req) : t.req = false := by
  obtain ⟨-, hr⟩ | rfl := whenPhase_next h
  · cases hr; rfl
  · exact absurd rfl hne

/-- Settles O53: the new state is the old one but for the operation's own registers, and for REQ the two writers each
have one direction. -/
theorem writersOfEachRegister : Obligations.WritersOfEachRegister := by
  intro i s t h hreset
  obtain ⟨u, hu⟩ : ∃ u, takeWrites i s u = t := ⟨t, exec_takeWrites h⟩
  cases i with
  | reset => exact absurd rfl hreset
  | poll =>
    have hset := exec_poll_sets_req h
    subst hu
    simpa [takeWrites] using hset
  | mClr =>
    have hclear := exec_mClr_clears_req h
    subst hu
    simpa [takeWrites, Instr.isSequencer] using hclear
  | _ => subst hu; simp [takeWrites, Instr.isSequencer]

/-! ### Readers of ACC and CNT, R22 and R23 -/

/-- The state `s` with another running sum and another countdown. -/
def State.withWindow (s : State) (a : Acc) (c : Count) : State := { s with acc := a, cnt := c }

/-- The same outcome with the window exchanged in the next state. -/
def nextWithWindow (a : Acc) (c : Count) : Result → Result
  | .next t => .next (t.withWindow a c)
  | .fault f => .fault f
  | .refused r => .refused r

/-- The enable reads SEQ only. -/
theorem nextWithWindow_whenPhase {a : Acc} {c : Count} {s : State} {r r' : Result} (h : nextWithWindow a c r = r')
    (code : PhaseCode) : nextWithWindow a c (whenPhase code s r) = whenPhase code (s.withWindow a c) r' :=
  h ▸ apply_ite (nextWithWindow a c) ..

theorem nextWithWindow_whenEnabled (a : Acc) (c : Count) (enable : Bool) (s t : State) :
    nextWithWindow a c (whenEnabled enable s t) = whenEnabled enable (s.withWindow a c) (t.withWindow a c) :=
  apply_ite (nextWithWindow a c) ..

theorem nextWithWindow_ite (a : Acc) (c : Count) (p : Prop) [Decidable p] (t u : State) :
    nextWithWindow a c (.next (if p then t else u)) = .next (if p then t.withWindow a c else u.withWindow a c) :=
  congrArg Host.Outcome.next (apply_ite (State.withWindow · a c) ..)

theorem nextWithWindow_showLevel (a : Acc) (c : Count) (s : State) :
    nextWithWindow a c (showLevel s) = showLevel (s.withWindow a c) := by
  cases hscale : scale s.measured s.rangeMin s.rangeMax with
  | ok level => rw [showLevel_of_ok hscale, showLevel_of_ok (s := s.withWindow a c) hscale]; rfl
  | error f => rw [showLevel_of_error hscale, showLevel_of_error (s := s.withWindow a c) hscale]; rfl

theorem observeRequest_withWindow (a : Acc) (c : Count) (s : State) :
    (observeRequest s).withWindow a c = observeRequest (s.withWindow a c) :=
  apply_ite (State.withWindow · a c) ..

/-- Every operation but SAMPLE and RESET does the same to the rest of the state, whatever ACC and CNT hold. -/
theorem nextWithWindow_exec {i : Instr} (hsample : ∀ d, i ≠ .sample d) (hreset : i ≠ .reset) (s : State) (a : Acc)
    (c : Count) : nextWithWindow a c (exec i s) = exec i (s.withWindow a c) := by
  cases i with
  | sample d => exact absurd rfl (hsample d)
  | reset => exact absurd rfl hreset
  | dlydone | btn _ => rfl
  | poll => exact nextWithWindow_whenEnabled ..
  | mShow => exact nextWithWindow_whenPhase (nextWithWindow_showLevel a c s) _
  | mReq =>
    refine nextWithWindow_whenPhase ((nextWithWindow_ite ..).trans ?_) _
    rw [observeRequest_withWindow]; rfl
  | cMin0 | cMax0 => exact nextWithWindow_whenPhase (nextWithWindow_ite ..) _
  | cMinw | cMaxw => exact nextWithWindow_whenPhase (apply_ite (nextWithWindow a c) ..) _
  | _ => exact nextWithWindow_whenPhase rfl _

/-- Settles O54: exchanging ACC and CNT commutes with every other operation, so it passes through both outcomes. -/
theorem onlySampleReadsAccAndCnt : Obligations.OnlySampleReadsAccAndCnt := by
  intro i s a c hsample hreset
  have hcommutes := nextWithWindow_exec hsample hreset s a c
  constructor
  · intro t h
    rw [h] at hcommutes
    exact hcommutes.symm
  · intro f h
    rw [h] at hcommutes
    exact hcommutes.symm

/-! ### Outputs, R44 to R46 and R89 -/

@[simp] theorem State.outputs_disp (s : State) : s.outputs.disp = s.disp := rfl
@[simp] theorem State.outputs_ind (s : State) : s.outputs.ind = s.ind := rfl
@[simp] theorem State.outputs_dlyReq (s : State) : s.outputs.dlyReq = isDelayPhase s.seq := rfl
@[simp] theorem State.outputs_dlyMs (s : State) : s.outputs.dlyMs = BitVec.ofNat 16 (delayMs s.seq) := rfl

/-- Only the delay phases request a delay (R89). -/
theorem delayMs_of_not_delay : ∀ code : PhaseCode, isDelayPhase code = false → delayMs code = 0 := by decide

/-- Settles O20: the outputs are the registers DISP and IND and two functions of SEQ, each with one value per phase. -/
theorem outputsFollowTheState : Obligations.OutputsFollowTheState := by
  intro s
  refine ⟨rfl, rfl, isDelayPhase_iff s.seq, fun h => ?_, fun h => ?_, fun h => ?_, fun h => ?_⟩
  · simp [h, delayMs]
  · obtain h | h | h := h <;> simp [h, delayMs]
  · obtain h | h := h <;> simp [h, delayMs]
  · simp [delayMs_of_not_delay s.seq h]

/-! ### Reset values, R38 -/

/-- Settles O13: M_SUSP, where RESET leaves the sequencer, is no delay phase and requests no delay. -/
theorem resetStateHasTheSpecsValues : Obligations.ResetStateHasTheSpecsValues := by
  have houtputs : State.reset.outputs = { disp := 0b0000, ind := false, dlyReq := false, dlyMs := 0 } := rfl
  simp [Obligations.ResetStateHasTheSpecsValues, houtputs]

end Sys2Proof.Machine
end

section
/-! PROOFS. One operation at a time out of the moments to come, traces as runs, and the mask window (20_memory.md R67,
R68, R73; 30_encoding.md R86, R92). -/

namespace Sys2Proof.Machine

/-! ### A moment without one of its sources, R73 and R86 -/

/-- Clearing a strobe's bit of EV takes that strobe off the list. -/
theorem strobesOf_clear (t : Strobe) : ∀ ev : EventVector,
    strobesOf (ev &&& ~~~t.mask) = (strobesOf ev).erase t := by cases t <;> decide

/-- The same for the strobes before RESET. -/
theorem beforeReset_strobes_clear (t : Strobe) : ∀ ev : EventVector,
    (strobesOf (ev &&& ~~~t.mask)).filter (· ≠ .rst) = ((strobesOf ev).filter (· ≠ .rst)).erase t := by
  cases t <;> decide

theorem rst_not_mem_clear : ∀ ev : EventVector, Strobe.rst ∉ strobesOf (ev &&& ~~~Strobe.rst.mask) := by decide

/-- The sources before RESET: strobes, then the level, then the sequencer's turn. -/
theorem beforeReset_eq (m : Moment) : m.beforeReset =
    ((strobesOf m.strobes).filter (· ≠ .rst)).map .strobe ++
      (m.level.toList.map .level ++ if m.seqTurn then [.sequencer] else []) := by
  unfold Moment.beforeReset
  cases m.level <;> simp

theorem strobe_mem_beforeReset {m : Moment} {t : Strobe} :
    Source.strobe t ∈ m.beforeReset ↔ t ∈ strobesOf m.strobes ∧ t ≠ .rst := by
  simp [beforeReset_eq]

theorem level_mem_beforeReset {m : Moment} {v : Bool} : Source.level v ∈ m.beforeReset ↔ m.level = some v := by
  simp [beforeReset_eq]

theorem erase_append_of_not_mem_right {a : Source} (xs : List Source) {ys : List Source} (h : a ∉ ys) :
    (xs ++ ys).erase a = xs.erase a ++ ys := by
  rw [List.erase_append]
  split
  · rfl
  · rw [List.erase_of_not_mem h, List.erase_of_not_mem ‹_›]

theorem without_strobe_beforeReset (m : Moment) (t : Strobe) :
    (m.without (.strobe t)).beforeReset = m.beforeReset.erase (.strobe t) := by
  have hinj : Function.Injective Source.strobe := fun _ _ h => Source.strobe.inj h
  rw [beforeReset_eq m, erase_append_of_not_mem_right _ (by simp), ← List.map_erase hinj, ← beforeReset_strobes_clear,
    beforeReset_eq]
  rfl

/-- Removing a source of a moment removes that source and no other. -/
theorem without_beforeReset {m : Moment} {src : Source} (h : src ∈ m.beforeReset) :
    (m.without src).beforeReset = m.beforeReset.erase src := by
  cases src with
  | strobe t => exact without_strobe_beforeReset m t
  | level v =>
    have hlevel := level_mem_beforeReset.mp h
    simp [beforeReset_eq, Moment.without, hlevel, List.erase_append]
  | sequencer =>
    simp [beforeReset_eq, Moment.without, List.erase_append]

/-- Removing anything but RESET leaves RESET as it was. -/
theorem without_rst {m : Moment} {src : Source} (h : src ∈ m.beforeReset) :
    Strobe.rst ∈ strobesOf (m.without src).strobes ↔ Strobe.rst ∈ strobesOf m.strobes := by
  cases src with
  | strobe t =>
    have hne : t ≠ .rst := (strobe_mem_beforeReset.mp h).2
    rw [Moment.without, strobesOf_clear, List.mem_erase_of_ne hne.symm]
  | level _ | sequencer => rfl

@[simp] theorem without_data (m : Moment) (src : Source) : (m.without src).data = m.data := by cases src <;> rfl

/-- Nothing is left without a source exactly when the source was alone. -/
theorem without_candidates_eq_nil {m : Moment} {src : Source} (h : src ∈ m.beforeReset) :
    (m.without src).candidates = [] ↔ m.beforeReset = [src] ∧ Strobe.rst ∉ strobesOf m.strobes := by
  rw [candidates_eq_nil, without_beforeReset h, without_rst h, List.erase_eq_nil_iff,
    or_iff_right (List.ne_nil_of_mem h)]

/-- RESET is a candidate only when nothing else is left. -/
theorem beforeReset_eq_nil_of_rst {m : Moment} (h : Source.strobe .rst ∈ m.candidates) : m.beforeReset = [] := by
  cases hsources : m.beforeReset with
  | nil => rfl
  | cons src more =>
    have hmem : Source.strobe .rst ∈ m.beforeReset := by
      simpa only [Moment.candidates, hsources] using h
    exact absurd rfl (strobe_mem_beforeReset.mp hmem).2

/-- RESET, the last of its moment, uses it up. -/
theorem after_rst {m : Moment} (h : Source.strobe .rst ∈ m.candidates) (rest : List Moment) :
    m.after (.strobe .rst) rest = rest := by
  have hsources : (m.without (.strobe .rst)).beforeReset = [] := by
    rw [without_strobe_beforeReset, beforeReset_eq_nil_of_rst h, List.erase_nil]
  rw [after_eq, if_pos ((candidates_eq_nil _).mpr ⟨hsources, rst_not_mem_clear m.strobes⟩)]

/-! ### What a step leaves to come -/

theorem fetch_empty_moment {s : State} {m : Moment} {rest : List Moment} (hinbox : s.inbox = m :: rest)
    (hnone : m.candidates = []) : fetch s = .nothing { s with inbox := rest } := by
  simp only [fetch, hinbox, hnone]

/-- From a moment with something in it one candidate is performed, and what is to come after it is left. -/
theorem fetch_candidate {s : State} {m : Moment} {rest : List Moment} (hinbox : s.inbox = m :: rest)
    (hsome : m.candidates ≠ []) : ∃ src ∈ m.candidates, ∃ k,
      fetch s = .run (src.selector m s) { s with inbox := m.after src rest, draws := k } := by
  match hsources : m.candidates with
  | [] => exact absurd hsources hsome
  | [src] => exact ⟨src, by simp, s.draws, by simp only [fetch, hinbox, hsources]⟩
  | src :: next :: more =>
    refine ⟨(src :: next :: more).getD (openChoice s.draws (more.length + 2)) src, ?_, s.draws + 1, by
      simp only [fetch, hinbox, hsources]⟩
    have hlt : openChoice s.draws (more.length + 2) < (src :: next :: more).length := Nat.mod_lt _ (by simp)
    rw [List.getD_eq_getElem _ _ hlt]
    exact List.getElem_mem hlt

theorem runSelector_next {sel : Selector} {s t : State} (h : runSelector sel s = .next t) :
    ∃ i, decode sel = .ok i ∧ exec i s = .next t := by
  unfold runSelector at h
  split at h
  · exact ⟨_, ‹_›, h⟩
  · rename_i e _
    cases e; cases h

theorem runSelector_of_decode {sel : Selector} {i : Instr} (h : decode sel = .ok i) (s : State) :
    runSelector sel s = exec i s := by
  simp only [runSelector, h]

theorem runSelector_keeps_inbox {sel : Selector} {s t : State} (h : runSelector sel s = .next t) :
    t.inbox = s.inbox := by
  obtain ⟨i, -, hexec⟩ := runSelector_next h
  exact exec_keeps_inbox hexec

/-- A performed operation does the same whatever is to come. -/
theorem runSelector_inbox {sel : Selector} {s t : State} (h : runSelector sel s = .next t) (q : List Moment) :
    runSelector sel { s with inbox := q } = .next { t with inbox := q } := by
  obtain ⟨i, hdecode, hexec⟩ := runSelector_next h
  rw [runSelector_of_decode hdecode]
  exact exec_inbox i s t q hexec

/-- A step from a waiting moment leaves that moment without what it performed, or the rest. -/
theorem step_next_inbox {m : Moment} {rest : List Moment} {s t : State} (hinbox : s.inbox = m :: rest)
    (h : step s = .next t) :
    (m.candidates = [] ∧ t.inbox = rest) ∨ ∃ src ∈ m.candidates, t.inbox = m.after src rest := by
  by_cases hnone : m.candidates = []
  · rw [step, fetch_empty_moment hinbox hnone] at h
    cases h
    exact .inl ⟨hnone, rfl⟩
  · obtain ⟨src, hmem, k, hfetch⟩ := fetch_candidate hinbox hnone
    rw [step, hfetch] at h
    exact .inr ⟨src, hmem, runSelector_keeps_inbox h⟩

/-- Settles O45: `without` is an erasure in the list of the moment's sources, so something is left after a source
unless it was alone, and no operation changes what the fetch left to come. -/
theorem eachEventIsPerformedOnce : Obligations.EachEventIsPerformedOnce := by
  intro m rest
  refine ⟨fun src hmem => ?_, fun h => after_rst (by simp [h]) rest, fun s t => step_next_inbox⟩
  have hleft := without_candidates_eq_nil hmem
  refine ⟨without_beforeReset hmem, without_rst hmem, without_data m src, fun halone hrst => ?_, fun hmore => ?_⟩
  · rw [after_eq, if_pos (hleft.mpr ⟨halone, hrst⟩)]
  · have hsome : (m.without src).candidates ≠ [] := fun hnone =>
      hmore.elim (absurd (hleft.mp hnone).1) (absurd · (hleft.mp hnone).2)
    rw [after_eq, if_neg hsome]

/-! ### Traces as runs, R67 and R92 -/

theorem decode_encode (i : Instr) : decode (encode i) = .ok i := by cases i <;> rfl

/-- A source alone in its moment is performed with the moment used up. -/
theorem step_single {m : Moment} {src : Source} (halone : m.beforeReset = [src])
    (hrst : Strobe.rst ∉ strobesOf m.strobes) (s : State) (rest : List Moment) :
    step { s with inbox := m :: rest } = runSelector (src.selector m s) { s with inbox := rest } := by
  have honly : m.candidates = [src] := by simp only [Moment.candidates, halone]
  have hnone : (m.without src).candidates = [] :=
    (without_candidates_eq_nil (by simp [halone])).mpr ⟨halone, hrst⟩
  simp only [step, fetch, honly, after_eq, hnone, if_true]
  cases src <;> rfl

theorem strobesOf_zero : strobesOf 0#4 = [] := rfl

theorem ofStrobe_beforeReset {t : Strobe} (h : t ≠ .rst) (d : RawSample) :
    (Moment.ofStrobe t d).beforeReset = [.strobe t] := by
  simp [beforeReset_eq, Moment.ofStrobe, strobesOf_mask, h]

theorem ofLevel_beforeReset (v : Bool) : (Moment.ofLevel v).beforeReset = [.level v] := by
  simp [beforeReset_eq, Moment.ofLevel, strobesOf_zero]

/-- An event alone in its moment is performed with the moment used up. -/
theorem step_event {i : Instr} (h : i.isSequencer = false) (s : State) (rest : List Moment) :
    step { s with inbox := Moment.ofSelector (encode i) :: rest } =
      runSelector (encode i) { s with inbox := rest } := by
  cases i with
  | sample d =>
    have hrst : Strobe.rst ∉ strobesOf Strobe.smpTrig.mask := by decide
    exact step_single (ofStrobe_beforeReset (by decide) d) hrst s rest
  | poll | dlydone | reset => rfl
  | btn v =>
    have hrst : Strobe.rst ∉ strobesOf 0#4 := by decide
    exact step_single (ofLevel_beforeReset v) hrst s rest
  | _ => cases h

/-- A line in a running trace is an error, or it performs one selector's operation, the one that a step performs with
the line's moment first. -/
theorem performLine_running (l : TraceLine) (s : State) :
    performLine l (.running s) = .traceError s ∨
    ∃ sel, performLine l (.running s) = .ofResult s (runSelector sel s) ∧
      ∀ rest, step { s with inbox := momentOfLine l :: rest } = runSelector sel { s with inbox := rest } := by
  have hstep : stepLine s = .traceError s ∨ stepLine s = .ofResult s (runSelector (.seq s.seq) s) :=
    ite_eq_or_eq ..
  cases l with
  | event i =>
    cases hkind : i.isSequencer with
    | true => exact .inl (by simp only [performLine, hkind, if_true])
    | false =>
      refine .inr ⟨encode i, ?_, step_event hkind s⟩
      rw [runSelector_of_decode (decode_encode i)]
      simp [performLine, hkind]
  | step => exact hstep.imp_right fun h => ⟨_, h, step_turn s⟩
  | stepNamed i =>
    by_cases hselected : decodeSeq s.seq = some i
    · have hline : performLine (.stepNamed i) (.running s) = stepLine s := if_pos hselected
      rw [hline]
      exact hstep.imp_right fun h => ⟨_, h, step_turn s⟩
    · exact .inl (if_neg hselected)

/-- A line that leaves the trace running is a step with the line's moment first, whatever is to come after it. -/
theorem step_of_line_running {l : TraceLine} {s t : State} (h : performLine l (.running s) = .running t)
    (rest : List Moment) :
    step { s with inbox := momentOfLine l :: rest } = .next { t with inbox := rest } ∧ t.inbox = s.inbox := by
  obtain herror | ⟨sel, hline, hstep⟩ := performLine_running l s
  · rw [herror] at h; cases h
  · rw [hline] at h
    cases hrun : runSelector sel s with
    | next u =>
      rw [hrun] at h; cases h
      exact ⟨(hstep rest).trans (runSelector_inbox hrun rest), runSelector_keeps_inbox hrun⟩
    | fault _ | refused _ => rw [hrun] at h; cases h

/-- Settles O51, by induction on the lines: a line that neither faults nor is an error is one step, and leaves what comes
after it waiting. -/
theorem traceIsARunOfTheMachine : Obligations.TraceIsARunOfTheMachine := by
  intro ls
  induction ls with
  | nil =>
    intro s t _ h
    cases h; rfl
  | cons l ls ih =>
    intro s t hnofault h
    cases hline : performLine l (.running s) with
    | running u =>
      obtain ⟨hstep, hinbox⟩ := step_of_line_running hline (ls.map momentOfLine ++ s.inbox)
      have htail : ∀ ls' : List TraceLine,
          runTrace ((l :: ls').map .line) s = runTrace (ls'.map .line) u := fun ls' =>
        congrArg (List.foldl _ · (ls'.map TraceItem.line)) hline
      have hrun := ih u t (fun k f v => htail (ls.take k) ▸ hnofault (k + 1) f v) (htail ls ▸ h)
      rw [hinbox] at hrun
      exact (core_run_succ hstep).trans hrun
    | faulted f u => exact absurd hline (hnofault 1 f u)
    | traceError u =>
      have herror : runTrace ((l :: ls).map .line) s = .traceError u :=
        (congrArg (List.foldl _ · (ls.map TraceItem.line)) hline).trans (traceError_stays ls u)
      rw [herror] at h
      cases h

/-! ### The mask window, R68 -/

/-- While SEN = 0 an operation other than RESET leaves ACC, CNT and RES: only SAMPLE writes them, and it is dropped. -/
theorem exec_masked_frame {i : Instr} {s t : State} (hmasked : s.sen = false) (hreset : i ≠ .reset)
    (h : exec i s = .next t) : t.acc = s.acc ∧ t.cnt = s.cnt ∧ t.res = s.res := by
  by_cases hsample : ∃ d, i = .sample d
  · obtain ⟨d, rfl⟩ := hsample
    obtain ⟨htaken, -⟩ | ⟨-, rfl⟩ := whenEnabled_next h
    · rw [hmasked] at htaken; cases htaken
    · exact ⟨rfl, rfl, rfl⟩
  · obtain ⟨hwriter, -⟩ := writersOfEachRegister i s t h hreset
    have hkept := mt hwriter hsample
    simpa only [not_or, not_not] using hkept

/-- Settles O55: a step passes over an empty moment, or performs one operation, which the mask or the list of writers
keeps away from the filter. -/
theorem maskWindowFreezesTheResult : Obligations.MaskWindowFreezesTheResult := by
  intro s t hmasked h
  obtain ⟨q, rfl⟩ | ⟨i, q, k, hexec⟩ := step_next h
  · exact .inl ⟨rfl, rfl, rfl⟩
  · by_cases hreset : i = .reset
    · subst hreset
      cases hexec
      exact .inr rfl
    · exact .inl (exec_masked_frame (s := { s with inbox := q, draws := k }) hmasked hreset hexec)

end Sys2Proof.Machine
end

section
/-! PROOFS. The encoding of operations and trace lines (30_encoding.md R80, R85, R86, R94), what one step performs (R86,
R87; 60_exceptions.md R207), and that it always has a meaning (R95). -/

namespace Sys2Proof.Machine

/-! ### Selectors, R80, R85 and R86 -/

/-- Settles O1: every payload travels in the selector, so the round trip needs no bound on it. -/
theorem decodeOfEncodeIsIdentity : Obligations.DecodeOfEncodeIsIdentity := fun i _ => decode_encode i

/-- Settles O2: each word is one row of a table. -/
theorem wordsOfTheSpecDecode : Obligations.WordsOfTheSpecDecode :=
  ⟨rfl, rfl, rfl, rfl, rfl, strobesOf_mask .smpTrig, strobesOf_mask .pollTrig, strobesOf_mask .dlyDone,
    strobesOf_mask .rst, rfl, rfl, rfl⟩

/-! ### Trace words, R94 -/

theorem mask_ne_step (t : Strobe) : t.mask ≠ 0xF := by cases t <;> decide

theorem strobesOf_eq_nil : ∀ ev : EventVector, strobesOf ev = [] → ev = 0 := by decide

/-- The word of a strobe stands for its event; only SAMPLE may have payload bits. -/
theorem decodeTraceWord_strobeWord {t : Strobe} {d : RawSample} (h : t = .smpTrig ∨ d = 0) :
    decodeTraceWord (strobeWord t d) = some (.event (decodeStrobe t d)) := by
  simp only [decodeTraceWord, strobeWord_ev, strobeWord_payload, strobesOf_mask, mask_ne_step, if_false, if_pos h]

/-- The event of a strobe is written with that strobe's word; the payload of any but SAMPLE is written as 0. -/
theorem word_decodeStrobe {t : Strobe} {d : RawSample} (h : t = .smpTrig ∨ d = 0) :
    (TraceLine.event (decodeStrobe t d)).word = strobeWord t d := by
  obtain rfl | rfl := h
  · rfl
  · cases t <;> rfl

/-- Settles O3: the word of a strobe's event is a strobe word, the other words are three constants. -/
theorem traceWordStandsForItsLine : Obligations.TraceWordStandsForItsLine := by
  have hstep : decodeTraceWord TraceLine.step.word = some .step := rfl
  refine ⟨fun i hwf => ?_, hstep, fun _ => hstep⟩
  cases i with
  | sample d => exact decodeTraceWord_strobeWord (.inl rfl)
  | poll | dlydone | reset => exact decodeTraceWord_strobeWord (.inr rfl)
  | btn v => cases v <;> rfl
  | _ => cases hwf

/-- A trace word is its two fields. -/
theorem traceWord_ext {w w' : TraceWord} (hev : w.extractLsb' 12 4 = w'.extractLsb' 12 4)
    (hlow : w.extractLsb' 0 12 = w'.extractLsb' 0 12) : w = w' := by
  apply BitVec.eq_of_toNat_eq
  rw [traceWord_split w, traceWord_split w', hev, hlow]

theorem eq_strobeWord {w : TraceWord} {t : Strobe} (hev : w.extractLsb' 12 4 = t.mask) :
    w = strobeWord t (w.extractLsb' 0 12) :=
  traceWord_ext (hev.trans (strobeWord_ev ..).symm) (strobeWord_payload ..).symm

/-- Everything a trace word can stand for: STEP, a level of the button, or the event of one strobe. -/
theorem decodeTraceWord_some {w : TraceWord} {l : TraceLine} (h : decodeTraceWord w = some l) :
    (w = 0xF000 ∧ l = .step) ∨ (w = 0x0000 ∧ l = .event (.btn false)) ∨ (w = 0x0001 ∧ l = .event (.btn true)) ∨
      ∃ t d, (t = .smpTrig ∨ d = 0) ∧ w = strobeWord t d ∧ l = .event (decodeStrobe t d) := by
  simp only [decodeTraceWord] at h
  split at h
  case isTrue hev =>
    obtain ⟨hlow, hl⟩ := Option.ite_none_right_eq_some.mp h
    cases hl
    exact .inl ⟨traceWord_ext hev hlow, rfl⟩
  case isFalse =>
    split at h
    case h_1 hnone =>
      have hev := strobesOf_eq_nil _ hnone
      split at h
      case isTrue hlow => cases h; exact .inr (.inl ⟨traceWord_ext hev hlow, rfl⟩)
      case isFalse =>
        obtain ⟨hlow, hl⟩ := Option.ite_none_right_eq_some.mp h
        cases hl
        exact .inr (.inr (.inl ⟨traceWord_ext hev hlow, rfl⟩))
    case h_2 t hone =>
      obtain ⟨hpayload, hl⟩ := Option.ite_none_right_eq_some.mp h
      cases hl
      exact .inr (.inr (.inr ⟨t, _, hpayload, eq_strobeWord (mask_of_strobesOf t _ hone), rfl⟩))
    case h_3 => cases h

theorem decodeStrobe_line_wf (t : Strobe) (d : RawSample) : (TraceLine.event (decodeStrobe t d)).wf = true := by
  cases t with
  | smpTrig => exact (Laws.SelectorKind.sample d).1
  | pollTrig | dlyDone | rst => rfl

/-- Settles O4: a word that stands for a line is made of that line's two fields. -/
theorem traceLineHasOneWord : Obligations.TraceLineHasOneWord := by
  intro w l h
  obtain ⟨rfl, rfl⟩ | ⟨rfl, rfl⟩ | ⟨rfl, rfl⟩ | ⟨t, d, hpayload, rfl, rfl⟩ := decodeTraceWord_some h
  · exact ⟨rfl, rfl⟩
  · exact ⟨rfl, rfl⟩
  · exact ⟨rfl, rfl⟩
  · exact ⟨word_decodeStrobe hpayload, decodeStrobe_line_wf t d⟩

/-! ### What a step performs, R86, R87 and R207 -/

theorem step_of_fetch_run {s t : State} {sel : Selector} (h : fetch s = .run sel t) : step s = runSelector sel t := by
  simp only [step, h]

theorem step_of_fetch_nothing {s t : State} (h : fetch s = .nothing t) : step s = .next t := by simp only [step, h]

/-- Settles O43: each clause is what a step runs from such a state, and the selector's decoding. -/
theorem stepPerformsTheSelectedOperation : Obligations.StepPerformsTheSelectedOperation := by
  refine ⟨fun s t sel i hfetch hdecode => ?_, fun s i hidle hdecode => ?_, fun s rest i hevent => ?_,
    fun s rest i hdecode => ?_⟩
  · rw [step_of_fetch_run hfetch, runSelector_of_decode hdecode]
  · rw [step_idle hidle, runSelector_of_decode hdecode]
  · rw [step_event hevent, runSelector_of_decode (decode_encode i)]
  · rw [step_turn, runSelector_of_decode hdecode]

/-- RESET, when it is a candidate, is the only one. -/
theorem candidates_eq_of_rst {m : Moment} (h : Source.strobe .rst ∈ m.candidates) : m.candidates = [.strobe .rst] := by
  have hnone := beforeReset_eq_nil_of_rst h
  simp only [Moment.candidates, hnone] at h ⊢
  split at h
  · exact if_pos ‹_›
  · cases h

/-- Settles O44: the fetch passes over an empty moment or picks a candidate, and RESET is none beside another. -/
theorem simultaneousEventsResetLast : Obligations.SimultaneousEventsResetLast := by
  intro s m rest hinbox
  refine ⟨fun hnone => step_of_fetch_nothing (fetch_empty_moment hinbox hnone), fun hsome => ?_,
    fun hrst => ⟨beforeReset_eq_nil_of_rst hrst, candidates_eq_of_rst hrst⟩⟩
  obtain ⟨src, hmem, k, hfetch⟩ := fetch_candidate hinbox hsome
  exact ⟨src, hmem, k, step_of_fetch_run hfetch⟩

/-- Settles O50: a line that is no error makes of the run what its selector's operation answers, and a step with the
line's moment before those still to come performs that operation. -/
theorem traceLineIsOneStep : Obligations.TraceLineIsOneStep := by
  intro l s
  obtain herror | ⟨sel, hline, hstep⟩ := performLine_running l s
  · rw [herror]
    exact ⟨nofun, nofun⟩
  · rw [hline, hstep s.inbox]
    cases runSelector sel s with
    | next u => exact ⟨fun _ h => by cases h; rfl, nofun⟩
    | fault g => exact ⟨nofun, fun _ _ h => by cases h; exact ⟨rfl, rfl⟩⟩
    | refused _ => exact ⟨nofun, nofun⟩

/-! ### Every operation has its meaning, R95 -/

theorem whenPhase_goes_on (code : PhaseCode) (s : State) {r : Result} (h : ∃ t, r = .next t) :
    ∃ t, whenPhase code s r = .next t := by
  unfold whenPhase
  split
  · exact h
  · exact ⟨s, rfl⟩

theorem whenEnabled_goes_on (enable : Bool) (s t : State) : ∃ u, whenEnabled enable s t = .next u := by
  cases enable <;> exact ⟨_, rfl⟩

/-- A wait for the button goes on whether it is pressed or not (R175, R181). -/
theorem wait_goes_on (s t : State) : ∃ u, (if s.pressed then .next t else hold s : Result) = .next u := by
  split
  · exact ⟨t, rfl⟩
  · exact ⟨s, rfl⟩

/-- Every operation goes on, except that M_SHOW may fault (R202). -/
theorem exec_outcome (i : Instr) (s : State) :
    (∃ t, exec i s = .next t) ∨ (i = .mShow ∧ ∃ f, exec i s = .fault f) := by
  cases i with
  | mShow =>
    by_cases hphase : s.seq = Phase.mShow
    · have hexec : exec .mShow s = showLevel s := whenPhase_at hphase _
      rw [hexec]
      cases hscale : scale s.measured s.rangeMin s.rangeMax with
      | ok level => exact .inl ⟨_, showLevel_of_ok hscale⟩
      | error f => exact .inr ⟨rfl, f, showLevel_of_error hscale⟩
    · exact .inl ⟨s, whenPhase_elsewhere hphase _⟩
  | sample _ | poll => exact .inl (whenEnabled_goes_on ..)
  | dlydone | reset | btn _ => exact .inl ⟨_, rfl⟩
  | cMinw | cMaxw => exact .inl (whenPhase_goes_on _ _ (wait_goes_on ..))
  | _ => exact .inl (whenPhase_goes_on _ _ ⟨_, rfl⟩)

theorem exec_not_refused (i : Instr) (s : State) (r : Refusal) : exec i s ≠ .refused r := by
  obtain ⟨t, h⟩ | ⟨-, f, h⟩ := exec_outcome i s <;> rw [h] <;> nofun

/-- A selector that selects no operation faults (R87), so it refuses no more than one that does. -/
theorem runSelector_not_refused (sel : Selector) (s : State) (r : Refusal) : runSelector sel s ≠ .refused r := by
  unfold runSelector
  split
  · exact exec_not_refused _ s r
  · rename_i e _
    cases e; nofun

/-- Settles O46: a step passes over an empty moment, or runs a selector. -/
theorem noStepIsRefused : Obligations.NoStepIsRefused := by
  intro s r
  cases hfetch : fetch s with
  | nothing t => rw [step_of_fetch_nothing hfetch]; nofun
  | run sel t => rw [step_of_fetch_run hfetch]; exact runSelector_not_refused sel t r

end Sys2Proof.Machine
end

section
/-! PROOFS. The Decimating Filter: the meaning of SAMPLE (40_filter.md R111), the shift as a division (R112, R115), and
windows of samples (R113, R115). -/

namespace Sys2Proof.Machine

/-! ### One intake, R111 -/

theorem filterIntakeDiv_counts {s : State} (h : s.cnt - 1 ≠ 0) (n : Nat) (d : RawSample) :
    filterIntakeDiv n d s = { s with acc := s.acc + sampleOperand d, cnt := s.cnt - 1 } :=
  if_neg (mt beq_iff_eq.mp h)

theorem filterIntakeDiv_publishes {s : State} (h : s.cnt - 1 = 0) (n : Nat) (d : RawSample) :
    filterIntakeDiv n d s =
      { s with res := meanByDivision n (s.acc + sampleOperand d), acc := 0, cnt := BitVec.ofNat 16 n } :=
  if_pos (beq_iff_eq.mpr h)

/-- Both sides are the low 16 bits of the quotient. -/
theorem meanByShift_eq_meanByDivision (k : Nat) (sum : Acc) : meanByShift k sum = meanByDivision (2 ^ k) sum := by
  apply BitVec.eq_of_toNat_eq
  simp [meanByShift, meanByDivision, Nat.shiftRight_eq_div_pow]

theorem filterIntake_eq_filterIntakeDiv (k : Nat) (d : RawSample) (s : State) :
    filterIntake k d s = filterIntakeDiv (2 ^ k) d s := by
  simp only [filterIntake, filterIntakeDiv, meanByShift_eq_meanByDivision]

theorem exec_sample_taken {s : State} (h : s.sen = true) (d : RawSample) :
    exec (.sample d) s = .next (filterIntake 8 d s) := if_pos h

theorem exec_sample_dropped {s : State} (h : s.sen = false) (d : RawSample) : exec (.sample d) s = .next s :=
  if_neg (Bool.eq_false_iff.mp h)

/-- Settles O6: a taken sample is one intake, which counts or publishes; the mean is bits 23 to 8 of the sum. -/
theorem sampleAccumulatesAndPublishes : Obligations.SampleAccumulatesAndPublishes := by
  intro d s
  refine ⟨rfl, rfl, fun hsen hcount => ?_, fun hsen hzero => ?_, fun hsen => exec_sample_dropped hsen d⟩
  · rw [exec_sample_taken hsen, filterIntake_eq_filterIntakeDiv, filterIntakeDiv_counts hcount]
  · rw [exec_sample_taken hsen, filterIntake_eq_filterIntakeDiv, filterIntakeDiv_publishes hzero,
      ← meanByShift_eq_meanByDivision]
    have hbits : meanByShift 8 (s.acc + sampleOperand d) = (s.acc + sampleOperand d).extractLsb' 8 16 := rfl
    rw [hbits]; rfl

/-! ### The shift is the division, R112 and R115 -/

/-- A mean below 2^16 loses no bit. -/
theorem meanByDivision_toNat {n : Nat} {sum : Acc} (h : uval sum < 65536 * n) :
    uval (meanByDivision n sum) = uval sum / n := by
  have hfits : uval sum / n < 65536 := Nat.div_lt_of_lt_mul (by rwa [Nat.mul_comm])
  rw [meanByDivision, uval, BitVec.toNat_ofNat, Nat.mod_eq_of_lt hfits]

/-- Settles O7: the shift keeps the division's low 16 bits, which are all of it when the mean fits. -/
theorem shiftIsIntegerDivision : Obligations.ShiftIsIntegerDivision := by
  intro k sum _
  rw [meanByShift_eq_meanByDivision]
  exact ⟨rfl, meanByDivision_toNat⟩

/-! ### Windows of samples, R113 and R115 -/

theorem count_pred {c : Count} (h : 1 < c.toNat) : c - 1 ≠ 0 ∧ (c - 1).toNat = c.toNat - 1 := by
  constructor <;> bv_omega

/-- Fewer samples than CNT counts are added and counted, and publish nothing. -/
theorem intakesDiv_count (n : Nat) (ds : List RawSample) (s : State) (h : ds.length < s.cnt.toNat) :
    ds.foldl (fun t d => filterIntakeDiv n d t) s =
      { s with acc := s.acc + BitVec.ofNat 32 (ds.map uval).sum, cnt := s.cnt - BitVec.ofNat 16 ds.length } := by
  induction ds generalizing s with
  | nil => simp
  | cons d ds ih =>
    rw [List.length_cons] at h
    obtain ⟨hcount, hpred⟩ := count_pred (c := s.cnt) (by omega)
    have hsum : s.acc + sampleOperand d + BitVec.ofNat 32 (ds.map uval).sum =
        s.acc + BitVec.ofNat 32 ((d :: ds).map uval).sum := by simp [BitVec.ofNat_add, BitVec.add_assoc]
    have hleft : s.cnt - 1 - BitVec.ofNat 16 ds.length = s.cnt - BitVec.ofNat 16 (ds.length + 1) := by bv_omega
    rw [List.foldl_cons, filterIntakeDiv_counts hcount, ih _ (by rw [hpred]; omega), hsum, hleft]
    rfl

/-- As many samples as CNT counts publish once, with the last one. -/
theorem intakesDiv_window (n : Nat) (ds : List RawSample) (s : State) (hne : ds ≠ []) (h : ds.length = s.cnt.toNat) :
    ds.foldl (fun t d => filterIntakeDiv n d t) s =
      { s with res := meanByDivision n (s.acc + BitVec.ofNat 32 (ds.map uval).sum), acc := 0
               cnt := BitVec.ofNat 16 n } := by
  obtain rfl | ⟨init, d, rfl⟩ := ds.eq_nil_or_concat'
  · exact absurd rfl hne
  · rw [List.length_append, List.length_singleton] at h
    have hlast : s.cnt - BitVec.ofNat 16 init.length - 1 = 0 := by bv_omega
    rw [List.foldl_append, intakesDiv_count n init s (by omega), List.foldl_cons, List.foldl_nil,
      filterIntakeDiv_publishes hlast]
    simp [BitVec.ofNat_add, BitVec.add_assoc]

/-- The sum of as many samples as fit CNT is exact in ACC. -/
theorem sum_payloads_lt {ds : List RawSample} (h : ds.length ≤ 65535) : (ds.map uval).sum < 4294967296 := by
  have hle := sum_payloads_le ds
  omega

theorem meanByDivision_ofNat {x : Nat} (h : x < 4294967296) (n : Nat) :
    meanByDivision n (BitVec.ofNat 32 x) = BitVec.ofNat 16 (x / n) := by
  rw [meanByDivision, uval, BitVec.toNat_ofNat, Nat.mod_eq_of_lt h]

/-- Settles O36: a whole window publishes the mean of an exact sum and leaves ACC and CNT as they were, and the two intakes
agree for every factor 2^k. -/
theorem windowOfAnyFactor : Obligations.WindowOfAnyFactor := by
  refine ⟨fun n ds s hpos hmax hacc hcnt hlen => ?_, fun k d s _ => filterIntake_eq_filterIntakeDiv k d s⟩
  have hne : ds ≠ [] := List.length_pos_iff.mp (by omega)
  have hcount : ds.length = s.cnt.toNat := by rw [hcnt, BitVec.toNat_ofNat]; omega
  rw [intakesDiv_window n ds s hne hcount, hacc, zero_add, meanByDivision_ofNat (sum_payloads_lt (by omega)), ← hcnt,
    ← hacc]

theorem execAll_samples_dropped (ds : List RawSample) {s : State} (h : s.sen = false) :
    execAll (ds.map .sample) s = .next s := by
  induction ds with
  | nil => rfl
  | cons d ds ih => simpa only [List.map_cons, execAll, exec_sample_dropped h d] using ih

theorem execAll_samples_eq_intakesDiv (ds : List RawSample) {s : State} (h : s.sen = true) :
    execAll (ds.map .sample) s = .next (ds.foldl (fun t d => filterIntakeDiv 256 d t) s) := by
  simp only [execAll_samples ds s h, filterIntake_eq_filterIntakeDiv, Nat.reducePow]

/-- Settles O35: samples taken are intakes with factor 256, of which fewer than CNT only count and as many are a whole
window; its mean is below 2^16. -/
theorem windowPublishesItsMean : Obligations.WindowPublishesItsMean := by
  intro ds s hacc hcnt
  have hcount : s.cnt.toNat = 256 := by rw [hcnt]; rfl
  refine ⟨fun hsen hlen => ?_, fun hsen hlen => ?_, execAll_samples_dropped ds⟩
  · have hleft : s.cnt - BitVec.ofNat 16 ds.length = BitVec.ofNat 16 (256 - ds.length) :=
      hcnt ▸ BitVec.ofNat_sub_ofNat_of_le 256 ds.length (by omega) (by omega)
    rw [execAll_samples_eq_intakesDiv ds hsen, intakesDiv_count 256 ds s (by omega), hacc, zero_add, hleft]
  · obtain ⟨hany, -⟩ := windowOfAnyFactor
    have hwindow := hany 256 ds s (by decide) (by decide) hacc hcnt hlen
    refine ⟨_, (execAll_samples_eq_intakesDiv ds hsen).trans (congrArg _ hwindow), ?_, rfl⟩
    have hsum := sum_payloads_le ds
    have hmean : (ds.map uval).sum / 256 < 2 ^ 16 := by omega
    exact (BitVec.toNat_ofNat ..).trans (Nat.mod_eq_of_lt hmean)

end Sys2Proof.Machine
end

section
/-! PROOFS. The Scaler and the display code (41_scaler.md R122 to R130). For either sign of the divisor the level is at least
`k` exactly when one inequality without a division holds; R126 to R128 and R130 are read off from it. -/

namespace Sys2Proof.Machine

/-- A quotient clamped to 0 reaches a positive `k` when the numerator reaches `k` times the divisor. -/
theorem le_toNat_ediv_iff {a b : Int} (hb : 0 < b) {k : Nat} (hk : 1 ≤ k) : k ≤ (a / b).toNat ↔ k * b ≤ a := by
  rw [← Int.le_ediv_iff_mul_le hb]
  omega

/-! ### The proper range, R128 and R130 -/

section Proper
variable {lo hi : Int} (h : lo < hi)
include h

theorem le_level_proper_iff {m : Int} {level k : Nat} (hlevel : scale m lo hi = .ok level) (hk : 1 ≤ k) :
    k ≤ level ↔ k * (hi - lo) ≤ 9 * (min m hi - lo) := by
  rw [scale_proper h, Except.ok.injEq] at hlevel
  rw [← hlevel, le_toNat_ediv_iff (by omega) hk]

/-- The level is the last threshold that the clamped reading reaches, and 0 below the first. -/
theorem scale_proper_eq_ok_iff {m : Int} {k : Nat} :
    scale m lo hi = .ok k ↔
      (k = 0 ∨ k * (hi - lo) ≤ 9 * (min m hi - lo)) ∧ 9 * (min m hi - lo) < (k + 1) * (hi - lo) := by
  obtain ⟨level, hlevel⟩ := scale_ok h.ne' m
  have hnext := le_level_proper_iff h hlevel (k := k + 1) (by omega)
  push_cast at hnext
  rw [hlevel, Except.ok.injEq]
  obtain rfl | hpos := Nat.eq_zero_or_pos k
  · omega
  · have hthis := le_level_proper_iff h hlevel hpos
    omega

theorem scale_proper_low {m : Int} (hm : m ≤ lo) : scale m lo hi = .ok 0 :=
  (scale_proper_eq_ok_iff h).mpr (by omega)

theorem scale_proper_high {m : Int} (hm : hi ≤ m) : scale m lo hi = .ok 9 :=
  (scale_proper_eq_ok_iff h).mpr (by omega)

theorem level_proper_le {m : Int} {level : Nat} (hlevel : scale m lo hi = .ok level) : level ≤ 9 := by
  have hten := le_level_proper_iff h hlevel (k := 10) (by omega)
  omega

theorem level_proper_mono {m n : Int} {k l : Nat} (hmn : m ≤ n) (hk : scale m lo hi = .ok k)
    (hl : scale n lo hi = .ok l) : k ≤ l := by
  rw [scale_proper h, Except.ok.injEq] at hk hl
  rw [← hk, ← hl]
  exact Int.toNat_le_toNat (Int.ediv_le_ediv (by omega) (by omega))

/-- The clamp at `hi` does not matter to the nine thresholds, since none of them is above `hi`. -/
theorem threshold_clamped_iff {m : Int} {k : Nat} (hk : k ≤ 9) :
    k * (hi - lo) ≤ 9 * (min m hi - lo) ↔ k * (hi - lo) ≤ 9 * (m - lo) := by
  have hbelow : (k : Int) * (hi - lo) ≤ 9 * (hi - lo) := mul_le_mul_of_nonneg_right (by omega) (by omega)
  omega

end Proper

theorem ceil_div_nine_le_iff (a b : Int) : ⌈(a : ℚ) / 9⌉ ≤ b ↔ a ≤ 9 * b := by
  rw [Int.ceil_le, div_le_iff₀' (by norm_num)]
  exact_mod_cast Iff.rfl

/-- Settles O29: both ends and the low side are the inequality at levels 0 and 9; a threshold is the inequality at `k`,
freed of its clamp and divided by 9. -/
theorem scalerProperties : Obligations.ScalerProperties := by
  intro lo hi h
  have hhigh : ∀ m, hi ≤ m → scale m lo hi = .ok 9 := fun _ => scale_proper_high h
  refine ⟨fun _ _ _ _ => level_proper_mono h, scale_proper_low h le_rfl, hhigh hi le_rfl,
    fun m hm => (hhigh m hm.le).trans (hhigh hi le_rfl).symm, fun _ => scale_proper_low h, fun m => ?_⟩
  obtain ⟨level, hlevel⟩ := scale_ok h.ne' m
  refine ⟨level, hlevel, fun k hpos hnine => ?_⟩
  calc k ≤ level
      ↔ k * (hi - lo) ≤ 9 * (min m hi - lo) := le_level_proper_iff h hlevel hpos
    _ ↔ k * (hi - lo) ≤ 9 * (m - lo) := threshold_clamped_iff h hnine
    _ ↔ ⌈(((k : Int) * (hi - lo) : Int) : ℚ) / 9⌉ ≤ m - lo := (ceil_div_nine_le_iff _ _).symm
    _ ↔ lo + ⌈(((k : Int) * (hi - lo) : Int) : ℚ) / 9⌉ ≤ m := le_sub_iff_add_le'

theorem scale_default_eq_ok_iff {m : Int} {k : Nat} :
    scale m 610 4095 = .ok k ↔
      (k = 0 ∨ k * 3485 ≤ 9 * (min m 4095 - 610)) ∧ 9 * (min m 4095 - 610) < (k + 1) * 3485 :=
  scale_proper_eq_ok_iff (by decide)

/-- Settles O33: the readings of each interval meet the two inequalities of its level for the divisor 3485. -/
theorem defaultRangeLevels : Obligations.DefaultRangeLevels := by
  intro m
  simp only [scale_default_eq_ok_iff, true_or, true_and]
  and_intros <;> omega

/-! ### The inverted range, R126 -/

section Inverted
variable {lo hi : Int} (h : hi < lo)
include h

theorem le_level_inverted_iff {m : Int} {level k : Nat} (hlevel : scale m lo hi = .ok level) (hk : 1 ≤ k) :
    k ≤ level ↔ k * (lo - hi) ≤ 9 * (lo - min m hi) := by
  rw [scale_inverted h, Except.ok.injEq] at hlevel
  rw [← hlevel, le_toNat_ediv_iff (by omega) hk]

theorem nine_le_level_inverted {m : Int} {level : Nat} (hlevel : scale m lo hi = .ok level) : 9 ≤ level :=
  (le_level_inverted_iff h hlevel (by decide)).mpr (by omega)

theorem scale_inverted_high {m : Int} (hm : hi ≤ m) : scale m lo hi = .ok 9 := by
  obtain ⟨level, hlevel⟩ := scale_ok h.ne m
  have hnine := nine_le_level_inverted h hlevel
  have hten := le_level_inverted_iff h hlevel (k := 10) (by decide)
  rw [hlevel, show level = 9 by omega]

theorem level_inverted_antitone {m n : Int} {k l : Nat} (hmn : m ≤ n) (hk : scale m lo hi = .ok k)
    (hl : scale n lo hi = .ok l) : l ≤ k := by
  rw [scale_inverted h, Except.ok.injEq] at hk hl
  rw [← hk, ← hl]
  exact Int.toNat_le_toNat (Int.ediv_le_ediv (by omega) (by omega))

/-- Numerator and divisor are both negative, so the quotient is not negative and nothing is clamped. -/
theorem level_inverted_eq_ediv {m : Int} {level : Nat} (hlevel : scale m lo hi = .ok level) :
    (level : Int) = 9 * (lo - min m hi) / (lo - hi) := by
  rw [scale_inverted h, Except.ok.injEq] at hlevel
  rw [← hlevel, Int.toNat_of_nonneg (Int.ediv_nonneg (by omega) (by omega))]

theorem floor_div_span_eq_ediv (a : Int) : ⌊(a : ℚ) / ((lo - hi : Int) : ℚ)⌋ = a / (lo - hi) := by
  rw [floor_div_eq_fdiv, Int.fdiv_eq_ediv_of_nonneg a (by omega)]

/-- Measured from `hi` instead of `lo`, the numerator is less by nine times the divisor. -/
theorem ediv_from_lo_eq_nine_add (m : Int) : 9 * (lo - m) / (lo - hi) = 9 + 9 * (hi - m) / (lo - hi) := by
  rw [show 9 * (lo - m) = 9 * (lo - hi) + 9 * (hi - m) by ring, Int.add_ediv_of_dvd_left (Dvd.intro_left 9 rfl),
    Int.mul_ediv_cancel _ (by omega)]

end Inverted

/-- Settles O30: below `hi` the reading is not clamped, and both formulas are its quotient. -/
theorem invertedRangeLevels : Obligations.InvertedRangeLevels := by
  intro lo hi h
  refine ⟨fun _ => scale_inverted_high h, fun m hm => ?_, fun _ _ _ _ => level_inverted_antitone h⟩
  obtain ⟨level, hlevel⟩ := scale_ok h.ne m
  have hquot := level_inverted_eq_ediv h hlevel
  rw [min_eq_left hm] at hquot
  rw [floor_div_span_eq_ediv h, floor_div_span_eq_ediv h]
  exact ⟨level, hlevel, hquot, hquot.trans (ediv_from_lo_eq_nine_add h m)⟩

/-- Settles O28: a proper range never reaches level 10; an inverted one reaches 9, and not 589816 with 16-bit operands,
whose differences are at most 65535. -/
theorem levelRange : Obligations.LevelRange := by
  intro m lo hi _ _ _ _ _ _
  refine ⟨fun h => ?_, fun h => ?_, fun h => h ▸ scale_empty m hi⟩
  · obtain ⟨level, hlevel⟩ := scale_ok h.ne' m
    exact ⟨level, hlevel, level_proper_le h hlevel⟩
  · obtain ⟨level, hlevel⟩ := scale_ok h.ne m
    have htop := le_level_inverted_iff h hlevel (k := 589816) (by decide)
    exact ⟨level, hlevel, nine_le_level_inverted h hlevel, by omega⟩

/-! ### Truncation in place of the floor, R124 -/

theorem clampNegative_of_nonpos {q : Int} (h : q ≤ 0) : clampNegative q = 0 := by
  unfold clampNegative
  split <;> omega

/-- Where the signs agree the two quotients are equal; where they differ neither is positive, and the clamp makes both 0. -/
theorem clampNegative_tdiv_eq_fdiv (num den : Int) : clampNegative (num.tdiv den) = clampNegative (num.fdiv den) := by
  wlog hnum : 0 ≤ num generalizing num den
  · simpa only [Int.neg_tdiv_neg, Int.neg_fdiv_neg] using this (-num) (-den) (by omega)
  rcases le_total 0 den with hden | hden
  · rw [Int.fdiv_eq_tdiv_of_nonneg hnum hden]
  · rw [clampNegative_of_nonpos (Int.tdiv_nonpos_of_nonneg_of_nonpos hnum hden),
      clampNegative_of_nonpos (Int.fdiv_nonpos_of_nonneg_of_nonpos hnum hden)]

/-- Settles O31: the two Scalers differ in the quotient that they clamp and in nothing else. -/
theorem floorAndTruncationAgree : Obligations.FloorAndTruncationAgree := by
  intro m lo hi
  simp only [scaleByTruncation, scale, clampNegative_tdiv_eq_fdiv]

/-! ### The Scaler in fixed width, R123 -/

theorem toInt_data_bounds (x : Data) : -32768 ≤ x.toInt ∧ x.toInt ≤ 32767 :=
  ⟨x.le_toInt, Int.le_of_lt_add_one x.toInt_lt⟩

theorem toInt_sext_sub_sext (x y : Data) : (sext 17 x - sext 17 y).toInt = x.toInt - y.toInt := by
  have hx := toInt_data_bounds x
  have hy := toInt_data_bounds y
  rw [BitVec.toInt_sub, BitVec.toInt_signExtend_of_le (by decide), BitVec.toInt_signExtend_of_le (by decide),
    bmod_of_small _ 16 (by omega) (by omega)]

theorem toInt_ite_slt_eq_min (m hi : Data) : (if hi.slt m then hi else m).toInt = min m.toInt hi.toInt := by
  simp only [apply_ite BitVec.toInt, BitVec.slt_iff_toInt_lt]
  omega

theorem toInt_nine_mul_sext (diff : BitVec 17) :
    (BitVec.ofNat 21 Config.levelMax * sext 21 diff).toInt = 9 * diff.toInt := by
  have hlow := diff.le_toInt
  have hhigh := diff.toInt_lt
  rw [BitVec.toInt_mul, BitVec.toInt_signExtend_of_le (by decide)]
  exact bmod_of_small (9 * diff.toInt) 20 (by omega) (by omega)

/-- R123's rule for a divider that truncates, over the integers. -/
theorem fdiv_eq_tdiv_sub_ite (a : Int) {b : Int} (hb : b ≠ 0) :
    a.fdiv b = a.tdiv b - if ¬ (a < 0 ↔ b < 0) ∧ a.tmod b ≠ 0 then 1 else 0 := by
  simp only [Int.fdiv_eq_tdiv, Int.dvd_iff_tmod_eq_zero]
  have hpos : 0 < b → b.sign = 1 := Int.sign_eq_one_of_pos
  have hneg : b < 0 → b.sign = -1 := Int.sign_eq_neg_one_of_neg
  split_ifs <;> omega

/-- The test of the fixed-width divider, on the values of its operands. -/
theorem signs_differ_and_inexact_iff (num den : BitVec 21) :
    (num.msb != den.msb && num.srem den != 0) = true ↔
      ¬ (num.toInt < 0 ↔ den.toInt < 0) ∧ num.toInt.tmod den.toInt ≠ 0 := by
  have hexact : num.srem den = 0 ↔ num.toInt.tmod den.toInt = 0 := by
    rw [← BitVec.toInt_inj, BitVec.toInt_srem]
    rfl
  simp only [Bool.and_eq_true, bne_iff_ne, ne_eq, BitVec.msb_eq_toInt, decide_eq_decide, hexact]

/-- The only quotient that could leave 21 bits is that of the least numerator. -/
theorem toInt_floorQuotient21 {num den : BitVec 21} (hnum : -1048576 < num.toInt) (hden : den.toInt ≠ 0) :
    (floorQuotient21 num den).toInt = num.toInt.fdiv den.toInt := by
  have hlt := num.toInt_lt
  have hquot := Int.natAbs_tdiv_le_natAbs num.toInt den.toInt
  have hsdiv : (num.sdiv den).toInt = num.toInt.tdiv den.toInt := by
    rw [BitVec.toInt_sdiv, bmod_of_small _ 20 (by omega) (by omega)]
  have hless : (num.sdiv den - 1).toInt = num.toInt.tdiv den.toInt - 1 := by
    rw [BitVec.toInt_sub, hsdiv, show (1 : BitVec 21).toInt = 1 by decide]
    exact bmod_of_small _ 20 (by omega) (by omega)
  rw [fdiv_eq_tdiv_sub_ite _ hden, floorQuotient21, apply_ite BitVec.toInt, hless, hsdiv]
  simp only [signs_differ_and_inexact_iff]
  split
  · rfl
  · exact (sub_zero _).symm

theorem toInt_clampedQuotient (q : BitVec 21) : (if q.msb then 0 else q).toInt = clampNegative q.toInt := by
  rw [clampNegative, BitVec.msb_eq_toInt]
  simp only [decide_eq_true_eq]
  split
  · rfl
  · exact (Int.toNat_of_nonneg (by omega)).symm

/-- Settles O32: each operation of the fixed-width Scaler is exact on what 16-bit operands can hand it. -/
theorem fixedWidthScalerIsExact : Obligations.FixedWidthScalerIsExact := by
  intro m lo hi
  have hm := toInt_data_bounds m
  have hlo := toInt_data_bounds lo
  have hhi := toInt_data_bounds hi
  refine ⟨by omega, by omega, by omega, fun h => if_pos (BitVec.toInt_inj.mp h), fun h => ?_⟩
  refine ⟨_, _, if_neg (mt (congrArg BitVec.toInt) h), if_neg h, ?_⟩
  have hnum (m' : Data) : (BitVec.ofNat 21 Config.levelMax * sext 21 (sext 17 m' - sext 17 lo)).toInt =
      9 * (m'.toInt - lo.toInt) := by rw [toInt_nine_mul_sext, toInt_sext_sub_sext]
  have hden : (sext 21 (sext 17 hi - sext 17 lo)).toInt = hi.toInt - lo.toInt := by
    rw [BitVec.toInt_signExtend_of_le (by decide), toInt_sext_sub_sext]
  rw [toInt_clampedQuotient, toInt_floorQuotient21, hnum, hden, toInt_ite_slt_eq_min]
  · rfl
  · rw [hnum, toInt_ite_slt_eq_min]; omega
  · rw [hden]; omega

/-! ### The display code, R129 -/

theorem dispenc_toNat {level : Int} (h : 0 ≤ level ∧ level ≤ 9) : ((dispenc level).toNat : Int) = level := by
  have hcode : dispenc level = BitVec.ofInt 4 level := if_pos h
  rw [hcode, BitVec.toNat_ofInt]
  omega

theorem dispenc_otherwise {level : Int} (h : level < 0 ∨ 9 < level) : dispenc level = 0b1000 :=
  if_neg (by simp only [Config.levelMax]; omega)

/-- Settles O34: on 0..9 the code read as a number is the level, so the code determines it. -/
theorem displayCodeIsTotalAndInjective : Obligations.DisplayCodeIsTotalAndInjective := by
  refine ⟨fun level h0 h9 => dispenc_toNat ⟨h0, h9⟩, fun level => dispenc_otherwise, fun a b ha0 ha9 hb0 hb9 hab => ?_,
    by decide, by decide⟩
  calc a = ((dispenc a).toNat : Int) := (dispenc_toNat ⟨ha0, ha9⟩).symm
    _ = ((dispenc b).toNat : Int) := by rw [hab]
    _ = b := dispenc_toNat ⟨hb0, hb9⟩

end Sys2Proof.Machine
end

section
/-! PROOFS. The inputs (42_inputs.md): the poll (R141), the button's level (R143), the delay phases and their end (R145,
R146). -/

namespace Sys2Proof.Machine

/-! ### The poll and the button, R141 and R143 -/

theorem exec_poll_taken {s : State} (h : s.pen = true) : exec .poll s = .next { s with req := s.req || s.btn } := if_pos h

theorem exec_poll_dropped {s : State} (h : s.pen = false) : exec .poll s = .next s := if_neg (Bool.eq_false_iff.mp h)

/-- Settles O9: a taken poll adds the button's level to REQ, and a dropped one changes nothing. -/
theorem pollSetsRequestWhenPressed : Obligations.PollSetsRequestWhenPressed := by
  refine ⟨rfl, rfl, fun s => ⟨fun hpen hbtn => ?_, fun hpen hbtn => ?_, exec_poll_dropped⟩⟩
  · rw [exec_poll_taken hpen, hbtn, Bool.or_true]
  · have hreq : (s.req || s.btn) = s.req := by rw [hbtn, Bool.or_false]
    rw [exec_poll_taken hpen, hreq]

/-- Settles O10: the level is its own selector, and the event writes it and nothing else. -/
theorem buttonEventChangesOnlyTheLevel : Obligations.ButtonEventChangesOnlyTheLevel := fun _ _ => ⟨rfl, rfl⟩

/-! ### The delays, R145 and R146 -/

theorem exec_dlydone (s : State) : exec .dlydone s = .next (s.goto (afterDelay s.seq)) := rfl

theorem exec_dlydone_ends {s : State} {code successor : PhaseCode} (hsuccessor : afterDelay code = successor)
    (h : s.seq = code) : exec .dlydone s = .next { s with seq := successor } := by
  rw [exec_dlydone, h, hsuccessor]; rfl

theorem exec_dlydone_ignored {s : State} (h : isDelayPhase s.seq = false) : exec .dlydone s = .next s := by
  rw [exec_dlydone, afterDelay_of_not_delay s.seq h]; rfl

/-- Settles O11: DLYDONE moves SEQ along the table of successors, in which a code that is no delay phase stays. -/
theorem delayDoneEndsTheDelayPhase : Obligations.DelayDoneEndsTheDelayPhase := by
  refine ⟨rfl, rfl, fun s => ⟨exec_dlydone_ends rfl, exec_dlydone_ends rfl, exec_dlydone_ends rfl, exec_dlydone_ends rfl,
    exec_dlydone_ends rfl, exec_dlydone_ends rfl, fun h06 h0A h0D h0F h12 h15 => ?_⟩⟩
  have hnot : ¬ isDelayPhase s.seq = true := by
    simp only [isDelayPhase_iff, not_or]
    exact ⟨h06, h0A, h0D, h0F, h12, h15⟩
  exact exec_dlydone_ignored (Bool.eq_false_iff.mpr hnot)

/-- Enabled or not, an operation whose effect is a hold changes nothing (R212). -/
theorem whenPhase_hold (code : PhaseCode) (s : State) : whenPhase code s (hold s) = .next s := ite_self _

/-- A delay phase requests its delay (R145, R89). -/
theorem outputs_at_delayPhase {s : State} {code : PhaseCode} (h : s.seq = code) (hdelay : isDelayPhase code = true) :
    s.outputs.dlyReq = true ∧ s.outputs.dlyMs = BitVec.ofNat 16 (delayMs code) := by
  simp [h, hdelay]

/-- Settles O19: the operation of a delay phase is a hold, and the outputs request the phase's delay. -/
theorem delayPhasesHoldAndRequest : Obligations.DelayPhasesHoldAndRequest := fun s =>
  ⟨fun h => ⟨whenPhase_hold Phase.mWait s, outputs_at_delayPhase h rfl⟩,
    fun h => ⟨whenPhase_hold Phase.cDly1 s, outputs_at_delayPhase h rfl⟩,
    fun h => ⟨whenPhase_hold Phase.cMind s, outputs_at_delayPhase h rfl⟩,
    fun h => ⟨whenPhase_hold Phase.cDly2 s, outputs_at_delayPhase h rfl⟩,
    fun h => ⟨whenPhase_hold Phase.cMaxd s, outputs_at_delayPhase h rfl⟩,
    fun h => ⟨whenPhase_hold Phase.cDly3 s, outputs_at_delayPhase h rfl⟩⟩

end Sys2Proof.Machine
end

section
/-! PROOFS. The operations of the sequencer, each at its phase (43_main_loop.md, 44_calibration.md), and whole iterations of
the Main Loop (R155, R159, R160). -/

namespace Sys2Proof.Machine

/-! ### The Main Loop's operations, R150 to R157 -/

theorem exec_mSusp_at {s : State} (h : s.seq = Phase.mSusp) :
    exec .mSusp s = .next { s with sen := false, seq := Phase.mRead } := whenPhase_at h _

theorem exec_mRead_at {s : State} (h : s.seq = Phase.mRead) :
    exec .mRead s = .next { s with meas := s.res, seq := Phase.mShow } := whenPhase_at h _

theorem exec_mShow_at {s : State} (h : s.seq = Phase.mShow) {level : Nat}
    (hlevel : scale s.meas.toInt s.min.toInt s.max.toInt = .ok level) :
    exec .mShow s = .next { s with disp := dispenc level, seq := Phase.mReq } :=
  (whenPhase_at h _).trans (showLevel_of_ok hlevel)

theorem exec_mShow_divZero {s : State} (h : s.seq = Phase.mShow) (hrange : s.max.toInt = s.min.toInt) :
    exec .mShow s = .fault .divZero :=
  (whenPhase_at h _).trans (showLevel_of_error (if_pos hrange))

theorem exec_mReq_passes {s : State} (h : s.seq = Phase.mReq) (hreq : s.req = false) :
    exec .mReq s = .next { s with seq := Phase.mResm } :=
  (whenPhase_at h _).trans (congrArg Host.Outcome.next (if_neg (Bool.eq_false_iff.mp hreq)))

theorem exec_mReq_observes {s : State} (h : s.seq = Phase.mReq) (hreq : s.req = true) :
    exec .mReq s = .next (observeRequest s) :=
  (whenPhase_at h _).trans (congrArg Host.Outcome.next (if_pos hreq))

theorem exec_mReq_arms {s : State} (h : s.seq = Phase.mReq) (hreq : s.req = true) (hrqc : ¬ 1 < (s.rqc + 1).toNat) :
    exec .mReq s = .next { s with rqc := s.rqc + 1, seq := Phase.mClr } := by
  rw [exec_mReq_observes h hreq]
  exact congrArg Host.Outcome.next (if_neg (mt of_decide_eq_true hrqc))

theorem exec_mReq_calls {s : State} (h : s.seq = Phase.mReq) (hreq : s.req = true) (hrqc : 1 < (s.rqc + 1).toNat) :
    exec .mReq s = .next { s with rqc := s.rqc + 1, cst := if s.cst = 0 then 1 else s.cst, seq := Phase.cInd } := by
  rw [exec_mReq_observes h hreq]
  simp only [observeRequest, pastArming, decide_eq_true hrqc, if_true, isIdle, beq_iff_eq]

theorem exec_mClr_disarms {s : State} (h : s.seq = Phase.mClr) (hrqc : 1 < s.rqc.toNat) :
    exec .mClr s = .next { s with req := false, rqc := 0, seq := Phase.mResm } :=
  (whenPhase_at h _).trans (by rw [if_pos (decide_eq_true hrqc)])

theorem exec_mClr_keeps {s : State} (h : s.seq = Phase.mClr) (hrqc : ¬ 1 < s.rqc.toNat) :
    exec .mClr s = .next { s with req := false, seq := Phase.mResm } :=
  (whenPhase_at h _).trans (by rw [if_neg (mt of_decide_eq_true hrqc)])

theorem exec_mResm_at {s : State} (h : s.seq = Phase.mResm) :
    exec .mResm s = .next { s with sen := true, seq := Phase.mWait } := whenPhase_at h _

/-- Settles O14: both operations, each at its phase. -/
theorem suspendAndResumeSampling : Obligations.SuspendAndResumeSampling :=
  ⟨rfl, rfl, fun _ => ⟨exec_mSusp_at, exec_mResm_at⟩⟩

/-- Settles O15: M_READ at its phase. -/
theorem readCopiesTheResult : Obligations.ReadCopiesTheResult := ⟨rfl, fun _ => exec_mRead_at⟩

/-- Settles O17: M_REQ observes no request, or counts one on either side of the threshold. -/
theorem requestArmsThenCalls : Obligations.RequestArmsThenCalls :=
  ⟨rfl, fun _ h => ⟨exec_mReq_passes h, exec_mReq_arms h, exec_mReq_calls h⟩⟩

/-- Settles O18: M_CLR's counter is on either side of the threshold. -/
theorem clearConsumesTheRequest : Obligations.ClearConsumesTheRequest :=
  ⟨rfl, fun _ h => ⟨exec_mClr_disarms h, exec_mClr_keeps h⟩⟩

theorem clampNegative_eq_max (q : Int) : (clampNegative q : Int) = max q 0 := by
  unfold clampNegative
  split <;> omega

/-- The Scaler over the rationals (R122). -/
theorem scale_eq_floor {m lo hi : Int} (h : hi ≠ lo) :
    scale m lo hi = .ok (clampNegative ⌊((9 * (min m hi - lo) : Int) : ℚ) / ((hi - lo : Int) : ℚ)⌋) := by
  rw [floor_div_eq_fdiv]
  exact if_neg h

/-- A level is not negative, so the top level alone tells whether it has a code of its own (R129). -/
theorem dispenc_of_nonneg {level : Int} (h : 0 ≤ level) :
    dispenc level = if level ≤ 9 then BitVec.ofInt 4 level else 0b1000 := by
  simp only [dispenc, h, true_and]; rfl

/-- Settles O16: M_SHOW's level is the Scaler's, which is the clamped floor of the exact reading. -/
theorem showDisplaysTheScaledLevel : Obligations.ShowDisplaysTheScaledLevel := by
  refine ⟨rfl, fun s h => ⟨exec_mShow_divZero h, fun hrange => ?_⟩⟩
  rw [exec_mShow_at h (scale_eq_floor hrange), clampNegative_eq_max, dispenc_of_nonneg (le_max_right ..)]

/-! ### The calibration routine's operations, R171 to R186 -/

theorem exec_cInd_at {s : State} (h : s.seq = Phase.cInd) :
    exec .cInd s = .next { s with ind := true, seq := Phase.cMask } := whenPhase_at h _

theorem exec_cMask_at {s : State} (h : s.seq = Phase.cMask) :
    exec .cMask s = .next { s with pen := false, sen := true, seq := Phase.cDly1 } := whenPhase_at h _

theorem exec_cMin0_prompts {s : State} (h : s.seq = Phase.cMin0) (hcst : s.cst = 1) :
    exec .cMin0 s = .next { s with disp := 0b0000, seq := Phase.cMinw } :=
  (whenPhase_at h _).trans (congrArg Host.Outcome.next (if_pos (beq_iff_eq.mpr hcst)))

theorem exec_cMin0_skips {s : State} (h : s.seq = Phase.cMin0) (hcst : s.cst ≠ 1) :
    exec .cMin0 s = .next { s with seq := Phase.cDly2 } :=
  (whenPhase_at h _).trans (congrArg Host.Outcome.next (if_neg (mt beq_iff_eq.mp hcst)))

theorem exec_cMinw_pressed {s : State} (h : s.seq = Phase.cMinw) (hbtn : s.btn = true) :
    exec .cMinw s = .next { s with seq := Phase.cMind } := (whenPhase_at h _).trans (if_pos hbtn)

theorem exec_cMins_at {s : State} (h : s.seq = Phase.cMins) :
    exec .cMins s = .next { s with min := s.res, cst := 2, seq := Phase.cDly2 } := whenPhase_at h _

theorem exec_cMax0_prompts {s : State} (h : s.seq = Phase.cMax0) (hcst : s.cst = 2) :
    exec .cMax0 s = .next { s with disp := 0b1001, seq := Phase.cMaxw } :=
  (whenPhase_at h _).trans (congrArg Host.Outcome.next (if_pos (beq_iff_eq.mpr hcst)))

theorem exec_cMax0_skips {s : State} (h : s.seq = Phase.cMax0) (hcst : s.cst ≠ 2) :
    exec .cMax0 s = .next { s with seq := Phase.cChk } :=
  (whenPhase_at h _).trans (congrArg Host.Outcome.next (if_neg (mt beq_iff_eq.mp hcst)))

theorem exec_cMaxw_pressed {s : State} (h : s.seq = Phase.cMaxw) (hbtn : s.btn = true) :
    exec .cMaxw s = .next { s with seq := Phase.cMaxd } := (whenPhase_at h _).trans (if_pos hbtn)

theorem exec_cMaxs_at {s : State} (h : s.seq = Phase.cMaxs) :
    exec .cMaxs s = .next { s with max := s.res, cst := 0, seq := Phase.cChk } := whenPhase_at h _

theorem exec_cChk_at {s : State} (h : s.seq = Phase.cChk) :
    exec .cChk s = .next { s with cst := if isOutOfRange s.cst then 0 else s.cst, seq := Phase.cDly3 } := whenPhase_at h _

theorem exec_cDone_at {s : State} (h : s.seq = Phase.cDone) :
    exec .cDone s = .next { s with ind := false, pen := true, seq := Phase.mClr } := whenPhase_at h _

/-! ### Runs, one operation at a time -/

theorem execAll_cons {i : Instr} {more : List Instr} {s t : State} {r : Result} (h : exec i s = .next t)
    (hmore : execAll more t = r) : execAll (i :: more) s = r := by
  simpa only [execAll, h] using hmore

theorem execAll_append_of_next {ops more : List Instr} {s t : State} {r : Result} (h : execAll ops s = .next t)
    (hmore : execAll more t = r) : execAll (ops ++ more) s = r := by
  simpa only [execAll_append, h] using hmore

theorem runSelector_seq {i : Instr} {s : State} (hselects : encode i = .seq s.seq) :
    runSelector (.seq s.seq) s = exec i s := by
  rw [← hselects, runSelector_of_decode (decode_encode i)]

theorem seqRun_succ (i : Instr) {n : Nat} {s t : State} {r : Result} (hselects : encode i = .seq s.seq)
    (h : exec i s = .next t) (hmore : seqRun n t = r) : seqRun (n + 1) s = r := by
  simpa only [seqRun, runSelector_seq hselects, h] using hmore

/-! ### Iterations without a calibration run, R155 and R160 -/

theorem scale_ok_of_range {s : State} (h : s.max ≠ s.min) (m : Int) :
    ∃ level, scale m s.min.toInt s.max.toInt = .ok level := scale_ok (mt BitVec.toInt_inj.mp h) m

/-- The state in which M_SUSP, M_READ and M_SHOW leave an iteration that shows `level`. -/
def State.shown (s : State) (level : Nat) : State :=
  { s with sen := false, meas := s.res, disp := dispenc level, seq := Phase.mReq }

section Shows
variable {s : State} {level : Nat} (h : s.seq = Phase.mSusp)
  (hlevel : scale s.res.toInt s.min.toInt s.max.toInt = .ok level)
include h hlevel

/-- The first three operations of an iteration mask the samples and show the result (R160 (a)). -/
theorem execAll_shows {more : List Instr} {r : Result} (hmore : execAll more (s.shown level) = r) :
    execAll (.mSusp :: .mRead :: .mShow :: more) s = r :=
  execAll_cons (exec_mSusp_at h) <| execAll_cons (exec_mRead_at rfl) <| execAll_cons (exec_mShow_at rfl hlevel) hmore

theorem seqRun_shows {n : Nat} {r : Result} (hmore : seqRun n (s.shown level) = r) : seqRun (n + 3) s = r :=
  seqRun_succ .mSusp (h ▸ rfl) (exec_mSusp_at h) <| seqRun_succ .mRead rfl (exec_mRead_at rfl) <|
    seqRun_succ .mShow rfl (exec_mShow_at rfl hlevel) hmore

end Shows

/-- Settles O37: the window leaves its mean in RES, where the first three operations find it. -/
theorem displayShowsTheWindowsMean : Obligations.DisplayShowsTheWindowsMean := by
  intro ds s hsen hacc hcnt hseq hrange hlen
  obtain ⟨-, hwindow, -⟩ := windowPublishesItsMean ds s hacc hcnt
  obtain ⟨t, hrun, hmean, ht⟩ := hwindow hsen hlen
  have hbound := sum_payloads_le ds
  have hint : t.res.toInt = (((ds.map uval).sum / 256 : Nat) : Int) := by
    rw [BitVec.toInt_eq_toNat_of_lt (by omega), hmean]
  obtain ⟨level, hlevel⟩ := scale_ok_of_range hrange t.res.toInt
  refine ⟨level, t.res, hint, hlevel, execAll_append_of_next (hrun.trans (congrArg _ ht)) ?_⟩
  exact execAll_shows (s := { s with res := t.res }) hseq hlevel rfl

/-- Settles O38: what follows the first three operations is M_REQ passing on, or arming and M_CLR; then M_RESM. -/
theorem iterationWithoutCalibration : Obligations.IterationWithoutCalibration := by
  intro s hseq hrange
  obtain ⟨level, hlevel⟩ := scale_ok_of_range hrange s.res.toInt
  refine ⟨level, hlevel, fun hreq => seqRun_shows hseq hlevel ?_, fun hreq hrqc => seqRun_shows hseq hlevel ?_⟩
  · exact seqRun_succ .mReq rfl (exec_mReq_passes rfl hreq) <| seqRun_succ .mResm rfl (exec_mResm_at rfl) rfl
  · have hone : s.rqc + 1 = 1 := by rw [hrqc]; rfl
    have hbelow : ¬ 1 < (s.rqc + 1).toNat := by rw [hone]; decide
    rw [← hone]
    exact seqRun_succ .mReq rfl (exec_mReq_arms rfl hreq hbelow) <| seqRun_succ .mClr rfl (exec_mClr_keeps rfl hbelow) <|
      seqRun_succ .mResm rfl (exec_mResm_at rfl) rfl

/-- Settles O39: the first iteration leaves RQC = 1 and REQ = 0, the poll between the two sets REQ again, and the second
iteration counts past the threshold. -/
theorem twoDetectionsStartCalibration : Obligations.TwoDetectionsStartCalibration := by
  intro s hseq hrange hreq hrqc hcst hpen
  obtain ⟨level, hlevel⟩ := scale_ok_of_range hrange s.res.toInt
  have hone : s.rqc + 1 = 1 := by rw [hrqc]; rfl
  have hbelow : ¬ 1 < (s.rqc + 1).toNat := by rw [hone]; decide
  have hpast : 1 < (s.rqc + 1 + 1).toNat := by rw [hone]; decide
  have hend : s.rqc + 1 + 1 = 2 := by rw [hone]; rfl
  have hcall : (if s.cst = 0 then 1 else s.cst) = 1 := if_pos hcst
  rw [← hend, ← hcall]
  exact ⟨level, hlevel, execAll_shows hseq hlevel <| execAll_cons (exec_mReq_arms rfl hreq hbelow) <|
    execAll_cons (exec_mClr_keeps rfl hbelow) <| execAll_cons (exec_mResm_at rfl) <|
    execAll_cons (exec_dlydone_ends rfl rfl) <| execAll_cons (buttonEventChangesOnlyTheLevel true _).2 <|
    execAll_cons (exec_poll_taken hpen) <|
    execAll_shows rfl (by exact hlevel) <| execAll_cons (exec_mReq_calls rfl rfl hpast) rfl⟩

/-! ### An iteration with a calibration run, R160 (c) and R189 -/

/-- RESET and the three writers of SEN apart, an operation leaves the mask as it is (R21). -/
theorem exec_keeps_sen {i : Instr} {s t : State} (hi : i ∉ ([.mSusp, .mResm, .cMask, .reset] : List Instr))
    (h : exec i s = .next t) : t.sen = s.sen := by
  obtain ⟨u, hu⟩ : ∃ u, takeWrites i s u = t := ⟨t, exec_takeWrites h⟩
  subst hu
  cases i with
  | mSusp | mResm | cMask | reset => simp at hi
  | _ => rfl

/-- Inside the mask window samples among other operations are dropped. -/
theorem execAll_masked {ops : List Instr} {s t : State} (hmasked : s.sen = false)
    (hops : ∀ i ∈ withoutSamples ops, i ∉ ([.mSusp, .mResm, .cMask, .reset] : List Instr))
    (h : execAll (withoutSamples ops) s = .next t) : execAll ops s = .next t := by
  induction ops generalizing s with
  | nil => exact h
  | cons i ops ih =>
    cases hpayload : samplePayload? i with
    | some d =>
      obtain rfl := eq_sample_of_payload hpayload
      exact execAll_cons (exec_sample_dropped hmasked d) (ih hmasked hops h)
    | none =>
      rw [withoutSamples_other hpayload] at hops h
      rw [List.forall_mem_cons] at hops
      cases hexec : exec i s with
      | next u =>
        rw [execAll, hexec] at h
        exact execAll_cons hexec (ih ((exec_keeps_sen hops.1 hexec).trans hmasked) hops.2 h)
      | fault _ | refused _ => rw [execAll, hexec] at h; cases h

/-- The registers of the filter, which SAMPLE alone writes (R21), taken from `f`. -/
def State.withFilterOf (s f : State) : State := { s with acc := f.acc, cnt := f.cnt, res := f.res }

/-- A part of a calibration run with samples in it, while SEN = 1: the filter goes from `f` to what it makes of the
samples, the other registers from `u` to `t`. -/
theorem execAll_unmasked {ops others : List Instr} {u t : State} (f : State) (hfilter : u.withFilterOf f = u)
    (hothers : withoutSamples ops = others) (hbystanders : ∀ i ∈ others, isFilterBystander i) (hsen : u.sen = true)
    (h : execAll others u = .next t) :
    execAll ops u = .next (t.withFilterOf ((payloads ops).foldl (fun t d => filterIntake 8 d t) f)) := by
  subst hothers
  rw [← hfilter]
  exact execAll_bystanders ops u f t hbystanders hsen h

/-- The part of the iteration inside the mask window: the routine is called, and its indicator is on. -/
theorem execAll_to_cMask {s : State} (hseq : s.seq = Phase.mSusp) {level : Nat}
    (hlevel : scale s.res.toInt s.min.toInt s.max.toInt = .ok level) (hreq : s.req = true) (hrqc : s.rqc = 1)
    (hcst : s.cst = 0) {w : List Instr} (hw : withoutSamples w = [.mRead, .mShow, .mReq, .cInd]) :
    execAll (.mSusp :: w) s =
      .next { s.shown level with rqc := 2, cst := 1, ind := true, seq := Phase.cMask } := by
  have hpast : 1 < (s.rqc + 1).toNat := by rw [hrqc]; decide
  have hend : s.rqc + 1 = 2 := by rw [hrqc]; rfl
  have hcall : (if s.cst = 0 then 1 else s.cst) = 1 := if_pos hcst
  refine execAll_cons (exec_mSusp_at hseq) (execAll_masked rfl (by rw [hw]; decide) ?_)
  rw [hw, ← hend, ← hcall]
  exact execAll_cons (exec_mRead_at rfl) <| execAll_cons (exec_mShow_at rfl hlevel) <|
    execAll_cons (exec_mReq_calls rfl hreq hpast) <| execAll_cons (exec_cInd_at rfl) rfl

/-- From the first delay to the acquisition of the minimum (R173 to R176). -/
theorem execAll_to_cMins {u : State} (hseq : u.seq = Phase.cDly1) (hcst : u.cst = 1) :
    execAll [.dlydone, .cMin0, .btn true, .cMinw, .dlydone] u =
      .next { u with disp := 0b0000, btn := true, seq := Phase.cMins } :=
  execAll_cons (exec_dlydone_ends rfl hseq) <| execAll_cons (exec_cMin0_prompts rfl hcst) <|
    execAll_cons (buttonEventChangesOnlyTheLevel true _).2 <| execAll_cons (exec_cMinw_pressed rfl rfl) <|
    execAll_cons (exec_dlydone_ends rfl rfl) rfl

/-- From there to the acquisition of the maximum (R179 to R182). -/
theorem execAll_to_cMaxs {u : State} (hseq : u.seq = Phase.cDly2) (hcst : u.cst = 2) :
    execAll [.btn false, .dlydone, .cMax0, .btn true, .cMaxw, .dlydone] u =
      .next { u with disp := 0b1001, btn := true, seq := Phase.cMaxs } :=
  execAll_cons (buttonEventChangesOnlyTheLevel false _).2 <| execAll_cons (exec_dlydone_ends rfl hseq) <|
    execAll_cons (exec_cMax0_prompts rfl hcst) <| execAll_cons (buttonEventChangesOnlyTheLevel true _).2 <|
    execAll_cons (exec_cMaxw_pressed rfl rfl) <| execAll_cons (exec_dlydone_ends rfl rfl) rfl

/-- From there to the end of the iteration (R184 to R186, R156, R157). -/
theorem execAll_to_mWait {u : State} (hseq : u.seq = Phase.cChk) (hcst : u.cst = 0) (hrqc : u.rqc = 2) :
    execAll [.cChk, .dlydone, .cDone, .mClr, .mResm] u =
      .next { u with req := false, rqc := 0, cst := 0, sen := true, pen := true, ind := false, seq := Phase.mWait } := by
  have hidle : (if isOutOfRange u.cst then 0 else u.cst) = 0 := by rw [hcst]; rfl
  have hpast : 1 < u.rqc.toNat := by rw [hrqc]; decide
  rw [← hidle]
  exact execAll_cons (exec_cChk_at hseq) <| execAll_cons (exec_dlydone_ends rfl rfl) <|
    execAll_cons (exec_cDone_at rfl) <| execAll_cons (exec_mClr_disarms rfl hpast) <| execAll_cons (exec_mResm_at rfl) rfl

/-- Settles O41: the window's samples are dropped, and in the three parts after it the filter takes the samples beside the
sequencer, which reads RES at C_MINS and at C_MAXS. -/
theorem iterationWithCalibration : Obligations.IterationWithCalibration := by
  intro w a b c s hseq hrange hreq hrqc hcst hw ha hb hc atMin atMax atEnd
  obtain ⟨level, hlevel⟩ := scale_ok_of_range hrange s.res.toInt
  have hwindow := execAll_to_cMask hseq hlevel hreq hrqc hcst hw
  have htoMin := execAll_append_of_next hwindow <| execAll_cons (exec_cMask_at rfl) <|
    execAll_unmasked s rfl ha (by decide) rfl (execAll_to_cMins rfl rfl)
  have htoMax := execAll_append_of_next htoMin <| execAll_cons (exec_cMins_at rfl) <|
    execAll_unmasked atMin rfl hb (by decide) rfl (execAll_to_cMaxs rfl rfl)
  exact execAll_append_of_next htoMax <| execAll_cons (exec_cMaxs_at rfl) <|
    execAll_unmasked atMax rfl hc (by decide) rfl (execAll_to_mWait rfl rfl rfl)

/-! ### The way to the next hold, R159 -/

/-- The most operations that the sequencer can need to come to a hold (R159). -/
def opsToHold (code : PhaseCode) : Nat :=
  if code = Phase.mSusp then 6
  else if code = Phase.mRead then 5
  else if code = Phase.mShow then 4
  else if code = Phase.mReq ∨ code = Phase.cDone then 3
  else if code = Phase.mClr ∨ code = Phase.cInd ∨ code = Phase.cMin0 ∨ code = Phase.cMax0 ∨ code = Phase.cMaxs then 2
  else if isDelayPhase code then 0
  else 1

theorem opsToHold_le : ∀ code : PhaseCode, opsToHold code ≤ 6 := by decide

theorem isDelayPhase_of_opsToHold : ∀ code : PhaseCode, opsToHold code = 0 → isDelayPhase code = true := by decide

theorem holds_of_delayPhase {s : State} (h : isDelayPhase s.seq = true) : holds s = true := by
  simp only [holds, h, Bool.true_or]

theorem pressed_of_not_holds {s : State} (hbusy : holds s = false) (hwait : isButtonWait s.seq = true) :
    s.btn = true := by
  simp only [holds, hwait, Bool.true_and, Bool.or_eq_false_iff, Bool.not_eq_false'] at hbusy
  exact hbusy.2

theorem encode_of_decodeSeq : ∀ code : PhaseCode, ∀ i ∈ decodeSeq code, encode i = .seq code := by decide

/-- At an assigned code the sequencer performs the operation of that code. -/
theorem exists_selected {code : PhaseCode} (h : isAssigned code = true) : ∃ i, encode i = .seq code :=
  (Option.isSome_iff_exists.mp h).imp fun i hi => encode_of_decodeSeq code i hi

/-- A move of SEQ to an assigned code that is nearer to a hold. -/
def nearer (code code' : PhaseCode) : Bool := isAssigned code' && decide (opsToHold code' < opsToHold code)

theorem observeRequest_nearer (s : State) : nearer Phase.mReq (observeRequest s).seq = true := by
  unfold observeRequest
  dsimp only
  split <;> rfl

/-- Where the sequencer does not hold it comes nearer to a hold, or M_SHOW faults. -/
theorem sequencer_nearer {i : Instr} {s : State} {code : PhaseCode} (hselects : encode i = .seq code) (h : s.seq = code)
    (hbusy : holds s = false) :
    (∃ t, exec i s = .next t ∧ nearer code t.seq = true) ∨ exec i s = .fault .divZero := by
  cases i with
  | sample _ | poll | dlydone | reset | btn _ => cases hselects
  | mWait | cDly1 | cMind | cDly2 | cMaxd | cDly3 =>
    cases hselects
    rw [holds_of_delayPhase (h ▸ rfl)] at hbusy
    cases hbusy
  | mShow =>
    cases hselects
    by_cases hrange : s.max.toInt = s.min.toInt
    · exact .inr (exec_mShow_divZero h hrange)
    · obtain ⟨level, hlevel⟩ := scale_ok hrange s.meas.toInt
      exact .inl ⟨_, exec_mShow_at h hlevel, rfl⟩
  | mReq =>
    cases hselects
    cases hreq : s.req with
    | false => exact .inl ⟨_, exec_mReq_passes h hreq, rfl⟩
    | true => exact .inl ⟨_, exec_mReq_observes h hreq, observeRequest_nearer s⟩
  | cMin0 =>
    cases hselects
    by_cases hcst : s.cst = 1
    · exact .inl ⟨_, exec_cMin0_prompts h hcst, rfl⟩
    · exact .inl ⟨_, exec_cMin0_skips h hcst, rfl⟩
  | cMax0 =>
    cases hselects
    by_cases hcst : s.cst = 2
    · exact .inl ⟨_, exec_cMax0_prompts h hcst, rfl⟩
    · exact .inl ⟨_, exec_cMax0_skips h hcst, rfl⟩
  | cMinw =>
    cases hselects
    exact .inl ⟨_, exec_cMinw_pressed h (pressed_of_not_holds hbusy (h ▸ rfl)), rfl⟩
  | cMaxw =>
    cases hselects
    exact .inl ⟨_, exec_cMaxw_pressed h (pressed_of_not_holds hbusy (h ▸ rfl)), rfl⟩
  | _ =>
    cases hselects
    exact .inl ⟨_, whenPhase_at h _, rfl⟩

theorem seqRun_fault {n : Nat} {s : State} {f : Fault} (h : runSelector (.seq s.seq) s = .fault f) :
    seqRun (n + 1) s = .fault f := by
  simp only [seqRun, h]

/-- Settles O42, by induction on a bound for the operations that the phase can still need. -/
theorem sequencerReachesAHold : Obligations.SequencerReachesAHold := by
  suffices hbound : ∀ n s, isAssigned s.seq = true → opsToHold s.seq ≤ n →
      ∃ k, k ≤ n ∧ ((∃ t, seqRun k s = .next t ∧ holds t = true) ∨ seqRun k s = .fault .divZero) from
    fun s hassigned => hbound 6 s hassigned (opsToHold_le s.seq)
  intro n
  induction n with
  | zero =>
    intro s _ hops
    have hdelay := isDelayPhase_of_opsToHold s.seq (Nat.le_zero.mp hops)
    exact ⟨0, le_rfl, .inl ⟨s, rfl, holds_of_delayPhase hdelay⟩⟩
  | succ n ih =>
    intro s hassigned hops
    cases hbusy : holds s with
    | true => exact ⟨0, Nat.zero_le _, .inl ⟨s, rfl, hbusy⟩⟩
    | false =>
      obtain ⟨i, hselects⟩ := exists_selected hassigned
      obtain ⟨t, hexec, hnearer⟩ | hfault := sequencer_nearer hselects rfl hbusy
      · simp only [nearer, Bool.and_eq_true, decide_eq_true_eq] at hnearer
        obtain ⟨k, hk, hrun⟩ := ih t hnearer.1 (by omega)
        have hsucc : seqRun (k + 1) s = seqRun k t := seqRun_succ i hselects hexec rfl
        exact ⟨k + 1, by omega, hsucc ▸ hrun⟩
      · exact ⟨1, by omega, .inr (seqRun_fault ((runSelector_seq hselects).trans hfault))⟩

/-! ### What a phase fixes of the registers that steer an iteration, R160 (d) and R236 (e) to (j) -/

/-- `code` lies in `lo .. hi`. -/
def within (lo hi code : PhaseCode) : Bool := decide (lo ≤ code) && decide (code ≤ hi)

/-- The values of RQC at a phase: 2 during a calibration run, whose end M_CLR still sees; M_CLR is entered with at least
one request counted, and otherwise at most one is (R236 (f)). -/
def countsAt (ended : Bool) (code : PhaseCode) : List ReqCount :=
  if within 0x08 0x16 code then [2] else if code = Phase.mClr then [if ended then 2 else 1] else [0, 1]

/-- CST, PEN, IND, SEN and RQC as the phase `code` fixes them, in a run that remembers by `ended` whether a calibration run
has ended in the iteration. -/
structure SteeredAt (ended : Bool) (code : PhaseCode) (s : State) : Prop where
  cst : s.cst = if within 0x08 0x0E code then 1 else if within 0x0F 0x13 code then 2 else 0
  pen : s.pen = !within 0x0A 0x16 code
  ind : s.ind = within 0x09 0x16 code
  sen : s.sen = (code == Phase.mSusp || code == Phase.mWait || within 0x0A 0x16 code || within 0x04 0x05 code && ended)
  rqc : s.rqc ∈ countsAt ended code
  /-- A run that has ended is remembered from M_CLR to M_WAIT. -/
  ended : ended = true → within 0x04 0x06 code = true

/-- A state whose steering registers are as its own phase fixes them. -/
abbrev Steered (ended : Bool) (s : State) : Prop := SteeredAt ended s.seq s

theorem SteeredAt.not_ended {ended : Bool} {code : PhaseCode} {s : State} (hs : SteeredAt ended code s)
    (hcode : within 0x04 0x06 code = false) : ended = false :=
  Bool.eq_false_iff.mpr fun h => Bool.noConfusion (hcode.symm.trans (hs.ended h))

/-- The reset values are those of M_SUSP. -/
theorem steered_afterReset (s : State) : Steered false s.afterReset :=
  ⟨rfl, rfl, rfl, rfl, List.mem_cons_self, nofun⟩

theorem runEnded_of_seq_eq {ended : Bool} {s t : State} (hs : Steered ended s) (h : t.seq = s.seq) :
    runEnded s t ended = ended := by
  unfold runEnded
  rw [h]
  split
  · rename_i hstart
    exact (hs.not_ended (hstart ▸ rfl)).symm
  · exact if_neg fun ⟨hdone, hclear⟩ => by rw [hdone] at hclear; cases hclear

/-- Whatever leaves SEQ and the steering registers as they are leaves the memory too. -/
theorem steered_of_same {ended : Bool} {s t : State} (hs : Steered ended s) (hseq : t.seq = s.seq) (hcst : t.cst = s.cst)
    (hpen : t.pen = s.pen) (hind : t.ind = s.ind) (hsen : t.sen = s.sen) (hrqc : t.rqc = s.rqc) :
    Steered (runEnded s t ended) t := by
  rw [runEnded_of_seq_eq hs hseq, Steered, hseq]
  exact ⟨hcst.trans hs.cst, hpen.trans hs.pen, hind.trans hs.ind, hsen.trans hs.sen, hrqc ▸ hs.rqc, hs.ended⟩

/-- The memory after a move from `code` to `code'`. -/
def endedAfter (code code' : PhaseCode) (ended : Bool) : Bool :=
  if code' = Phase.mSusp then false else if code = Phase.cDone ∧ code' = Phase.mClr then true else ended

/-- A move of SEQ from a phase that is known. -/
theorem steered_of_move {ended : Bool} {code : PhaseCode} {s t : State} (h : s.seq = code)
    (ht : SteeredAt (endedAfter code t.seq ended) t.seq t) : Steered (runEnded s t ended) t := by
  subst h; exact ht

theorem exec_dlydone_steered {ended : Bool} {s t : State} (hs : Steered ended s) (h : exec .dlydone s = .next t) :
    Steered (runEnded s t ended) t := by
  cases h
  cases hdelay : isDelayPhase s.seq with
  | false =>
    have hstays := afterDelay_of_not_delay s.seq hdelay
    exact steered_of_same hs hstays rfl rfl rfl rfl rfl
  | true =>
    obtain h | hroutine := (isDelayPhase_iff s.seq).mp hdelay
    · rw [Steered, h] at hs
      rw [h]
      exact steered_of_move h ⟨hs.cst, hs.pen, hs.ind, hs.sen, hs.rqc, nofun⟩
    · obtain h | h | h | h | h := hroutine <;> rw [Steered, h] at hs <;> rw [h] <;>
        exact steered_of_move h ⟨hs.cst, hs.pen, hs.ind, hs.sen, hs.rqc, hs.ended⟩

/-- M_REQ counts from 0 to 1 and goes on to M_CLR, or from 1 to 2 and calls the routine. -/
theorem exec_mReq_steered {ended : Bool} {s t : State} (h : s.seq = Phase.mReq) (hs : SteeredAt ended Phase.mReq s)
    (hexec : exec .mReq s = .next t) : Steered (runEnded s t ended) t := by
  obtain rfl := hs.not_ended rfl
  cases hreq : s.req with
  | false =>
    cases (exec_mReq_passes h hreq).symm.trans hexec
    exact steered_of_move h ⟨hs.cst, hs.pen, hs.ind, hs.sen, hs.rqc, nofun⟩
  | true =>
    obtain hrqc | hrqc : s.rqc = 0 ∨ s.rqc = 1 := by simpa [countsAt, within] using hs.rqc
    · have hone : s.rqc + 1 ∈ countsAt false Phase.mClr := by rw [hrqc]; decide
      cases (exec_mReq_arms h hreq (by rw [hrqc]; decide)).symm.trans hexec
      exact steered_of_move h ⟨hs.cst, hs.pen, hs.ind, hs.sen, hone, nofun⟩
    · have htwo : s.rqc + 1 ∈ countsAt false Phase.cInd := by rw [hrqc]; decide
      cases (exec_mReq_calls h hreq (by rw [hrqc]; decide)).symm.trans hexec
      exact steered_of_move h ⟨if_pos hs.cst, hs.pen, hs.ind, hs.sen, htwo, nofun⟩

/-- M_CLR's count tells whether a run has ended: it disarms then, and keeps the one request counted otherwise. -/
theorem exec_mClr_steered {ended : Bool} {s t : State} (h : s.seq = Phase.mClr) (hs : SteeredAt ended Phase.mClr s)
    (hexec : exec .mClr s = .next t) : Steered (runEnded s t ended) t := by
  have hrqc : s.rqc = if ended then 2 else 1 := List.mem_singleton.mp hs.rqc
  cases ended with
  | false =>
    have hone : s.rqc ∈ countsAt false Phase.mResm := by rw [hrqc]; decide
    cases (exec_mClr_keeps h (by rw [hrqc]; decide)).symm.trans hexec
    exact steered_of_move h ⟨hs.cst, hs.pen, hs.ind, hs.sen, hone, nofun⟩
  | true =>
    cases (exec_mClr_disarms h (by rw [hrqc]; decide)).symm.trans hexec
    exact steered_of_move h ⟨hs.cst, hs.pen, hs.ind, hs.sen, List.mem_cons_self, fun _ => rfl⟩

/-- An operation that its phase does not enable changes nothing, so only its effect has to be looked at. -/
theorem steered_of_whenPhase {ended : Bool} {code : PhaseCode} {s t : State} {r : Result} (hs : Steered ended s)
    (h : whenPhase code s r = .next t)
    (heffect : s.seq = code → SteeredAt ended code s → r = .next t → Steered (runEnded s t ended) t) :
    Steered (runEnded s t ended) t := by
  obtain ⟨hseq, hr⟩ | rfl := whenPhase_next h
  · exact heffect hseq (hseq ▸ hs) hr
  · exact steered_of_same hs rfl rfl rfl rfl rfl rfl

/-- The same for an operation with one effect. -/
theorem steered_of_effect {ended : Bool} {code : PhaseCode} {s t u : State} (hs : Steered ended s)
    (h : whenPhase code s (.next u) = .next t)
    (hu : SteeredAt ended code s → SteeredAt (endedAfter code u.seq ended) u.seq u) : Steered (runEnded s t ended) t :=
  steered_of_whenPhase hs h fun hseq hat hr => by cases hr; exact steered_of_move hseq (hu hat)

/-- Every operation leaves the steering registers as the phase it leads to fixes them. -/
theorem exec_steered {ended : Bool} {i : Instr} {s t : State} (hs : Steered ended s) (h : exec i s = .next t) :
    Steered (runEnded s t ended) t := by
  cases i with
  | sample _ | poll | btn _ =>
    rw [← exec_takeWrites h]
    exact steered_of_same hs rfl rfl rfl rfl rfl rfl
  | dlydone => exact exec_dlydone_steered hs h
  | reset =>
    cases h
    exact steered_afterReset s
  | mReq => exact steered_of_whenPhase hs h fun hseq hat _ => exec_mReq_steered hseq hat h
  | mClr => exact steered_of_whenPhase hs h fun hseq hat _ => exec_mClr_steered hseq hat h
  | mShow =>
    refine steered_of_whenPhase hs h fun hseq hat hr => ?_
    obtain ⟨level, rfl⟩ := showLevel_next hr
    exact steered_of_move hseq ⟨hat.cst, hat.pen, hat.ind, hat.sen, hat.rqc, hat.ended⟩
  | cMin0 =>
    refine steered_of_whenPhase hs h fun hseq hat _ => ?_
    cases (exec_cMin0_prompts hseq hat.cst).symm.trans h
    exact steered_of_move hseq ⟨hat.cst, hat.pen, hat.ind, hat.sen, hat.rqc, hat.ended⟩
  | cMax0 =>
    refine steered_of_whenPhase hs h fun hseq hat _ => ?_
    cases (exec_cMax0_prompts hseq hat.cst).symm.trans h
    exact steered_of_move hseq ⟨hat.cst, hat.pen, hat.ind, hat.sen, hat.rqc, hat.ended⟩
  | cMinw | cMaxw =>
    refine steered_of_whenPhase hs h fun hseq hat hr => ?_
    split at hr <;> cases hr
    · exact steered_of_move hseq ⟨hat.cst, hat.pen, hat.ind, hat.sen, hat.rqc, hat.ended⟩
    · exact steered_of_same hs rfl rfl rfl rfl rfl rfl
  | mWait | cDly1 | cMind | cDly2 | cMaxd | cDly3 =>
    cases (whenPhase_hold _ s).symm.trans h
    exact steered_of_same hs rfl rfl rfl rfl rfl rfl
  | mRead => exact steered_of_effect hs h fun hat => ⟨hat.cst, hat.pen, hat.ind, hat.sen, hat.rqc, hat.ended⟩
  | mSusp | mResm => exact steered_of_effect hs h fun hat => ⟨hat.cst, hat.pen, hat.ind, rfl, hat.rqc, hat.ended⟩
  | cInd => exact steered_of_effect hs h fun hat => ⟨hat.cst, hat.pen, rfl, hat.sen, hat.rqc, hat.ended⟩
  | cMask => exact steered_of_effect hs h fun hat => ⟨hat.cst, rfl, hat.ind, rfl, hat.rqc, hat.ended⟩
  | cMins | cMaxs => exact steered_of_effect hs h fun hat => ⟨rfl, hat.pen, hat.ind, hat.sen, hat.rqc, hat.ended⟩
  | cChk =>
    exact steered_of_effect hs h fun hat =>
      ⟨by rw [hat.cst]; rfl, hat.pen, hat.ind, hat.sen, hat.rqc, hat.ended⟩
  | cDone => exact steered_of_effect hs h fun hat => ⟨hat.cst, rfl, rfl, hat.sen, hat.rqc, fun _ => rfl⟩

theorem reachableSince_steered {ended : Bool} {s : State} (h : ReachableSince ended s) : Steered ended s := by
  induction h with
  | start level moments k => exact ⟨rfl, rfl, rfl, rfl, List.mem_cons_self, nofun⟩
  | @step ended s t _ hstep ih =>
    obtain ⟨q, rfl⟩ | ⟨i, q, k, hexec⟩ := step_next hstep
    · exact steered_of_same ih rfl rfl rfl rfl rfl rfl
    · have hbefore : Steered ended { s with inbox := q, draws := k } :=
        ⟨ih.cst, ih.pen, ih.ind, ih.sen, ih.rqc, ih.ended⟩
      have hafter := exec_steered hbefore hexec
      exact hafter

/-- What a run remembers does not change what is reachable: the other direction. -/
theorem since_of_reachable {s : State} (h : Reachable s) : ∃ ended, ReachableSince ended s := by
  induction h with
  | start level moments k => exact ⟨false, .start level moments k⟩
  | step _ ht ih =>
    obtain ⟨ended, h⟩ := ih
    exact ⟨_, h.step ht⟩

/-- Two iterations with the button pressed from the start, a POLL in each, up to M_RESM at the end of the calibration run
(R155, R160 (c)). -/
def runToResume : List Moment :=
  let turns n := List.replicate n Moment.turn
  let delay := Moment.ofStrobe .dlyDone 0
  let poll := Moment.ofStrobe .pollTrig 0
  [poll] ++ turns 6 ++ [delay, poll] ++ turns 6 ++ [delay] ++ turns 2 ++ [delay] ++ turns 1 ++ [delay] ++ turns 2 ++
    [delay] ++ turns 2 ++ [delay] ++ turns 2

theorem run_to_resume :
    Sys2Proof.core.run 29 { State.reset with btn := true, inbox := runToResume } =
      .next { State.reset with btn := true, min := 0, max := 0, disp := 0b1001, seq := Phase.mResm } := rfl

/-- Settles O60, by induction over the runs that remember; the states of the last clause are at M_RESM, where SEN shows what
the run remembers. -/
theorem everyIterationStartsCleanAndResumes : Obligations.EveryIterationStartsCleanAndResumes := by
  have hresume : ∀ (ended : Bool) (s : State), ReachableSince ended s → s.seq = 0x05 → s.sen = ended := by
    intro ended s h hseq
    have hs := reachableSince_steered h
    rw [Steered, hseq] at hs
    exact hs.sen
  refine ⟨fun s h hseq => ?_, fun s => ⟨since_of_reachable, fun ⟨_, h⟩ => reachable_of_since h⟩, hresume, ?_⟩
  · obtain ⟨ended, hsince⟩ := since_of_reachable h
    have hs := reachableSince_steered hsince
    rw [Steered, hseq] at hs
    exact ⟨hs.cst, hs.pen, hs.ind, hs.sen, by simpa [countsAt, within] using hs.rqc⟩
  · obtain ⟨ended, hrun⟩ := since_of_reachable (reachable_run (.start true runToResume 0) run_to_resume)
    obtain rfl : true = ended := hresume _ _ hrun rfl
    have hpass : ReachableSince false { State.reset with sen := false, seq := Phase.mResm } :=
      .step (.step (.step (.step (.start false [] 0) rfl) rfl) rfl) rfl
    exact ⟨_, _, hrun, hpass, rfl, rfl, rfl, rfl⟩

end Sys2Proof.Machine
end

section
/-! PROOFS. The calibration routine, an operation at a time, from an entry outside AwaitingMin, and as the only mover of the
CalibrationState (44_calibration.md R171 to R190). -/

namespace Sys2Proof.Machine

/-! ### The operations, R171 to R186 -/

/-- Settles O21: the three operations, each at its phase. -/
theorem calibrationEntersAndLeaves : Obligations.CalibrationEntersAndLeaves :=
  ⟨rfl, rfl, rfl, fun _ => ⟨exec_cInd_at, exec_cMask_at, exec_cDone_at⟩⟩

/-- Settles O22: each prompt's test of CST succeeds or fails. -/
theorem promptsAreShownOrSkipped : Obligations.PromptsAreShownOrSkipped :=
  ⟨rfl, rfl, fun _ => ⟨exec_cMin0_prompts, exec_cMin0_skips, exec_cMax0_prompts, exec_cMax0_skips⟩⟩

theorem exec_cMinw_released {s : State} (h : s.seq = Phase.cMinw) (hbtn : s.btn = false) : exec .cMinw s = .next s :=
  (whenPhase_at h _).trans (if_neg (Bool.eq_false_iff.mp hbtn))

theorem exec_cMaxw_released {s : State} (h : s.seq = Phase.cMaxw) (hbtn : s.btn = false) : exec .cMaxw s = .next s :=
  (whenPhase_at h _).trans (if_neg (Bool.eq_false_iff.mp hbtn))

/-- Settles O23: each wait's test of the button's level succeeds or fails. -/
theorem waitsBlockUntilPressed : Obligations.WaitsBlockUntilPressed :=
  ⟨rfl, rfl, fun _ => ⟨exec_cMinw_pressed, exec_cMinw_released, exec_cMaxw_pressed, exec_cMaxw_released⟩⟩

/-- Settles O24: both acquisitions, each at its phase. -/
theorem calibrationAcquiresTheRange : Obligations.CalibrationAcquiresTheRange :=
  ⟨rfl, rfl, fun _ => ⟨exec_cMins_at, exec_cMaxs_at⟩⟩

theorem exec_cChk_clamps {s : State} (h : s.seq = Phase.cChk) (hcst : 2 < s.cst.toNat) :
    exec .cChk s = .next { s with cst := 0, seq := Phase.cDly3 } := by
  rw [exec_cChk_at h, if_pos (decide_eq_true hcst)]

theorem exec_cChk_keeps {s : State} (h : s.seq = Phase.cChk) (hcst : s.cst.toNat ≤ 2) :
    exec .cChk s = .next { s with seq := Phase.cDly3 } := by
  rw [exec_cChk_at h, if_neg (mt of_decide_eq_true (Nat.not_lt.mpr hcst))]

/-- Settles O25: CST is above the enumeration or in it. -/
theorem outOfRangeStateIsForcedToIdle : Obligations.OutOfRangeStateIsForcedToIdle :=
  ⟨rfl, fun _ h => ⟨exec_cChk_clamps h, exec_cChk_keeps h⟩⟩

/-! ### The routine entered outside AwaitingMin, R190 -/

/-- Steps 1 to 5 with the minimum skipped: up to the test for the maximum. -/
theorem execAll_skips_to_cMax0 {s : State} (hseq : s.seq = Phase.cInd) (hcst : s.cst ≠ 1) {more : List Instr} {r : Result}
    (hmore : execAll more { s with ind := true, pen := false, sen := true, seq := Phase.cMax0 } = r) :
    execAll (.cInd :: .cMask :: .dlydone :: .cMin0 :: .dlydone :: more) s = r :=
  execAll_cons (exec_cInd_at hseq) <| execAll_cons (exec_cMask_at rfl) <| execAll_cons (exec_dlydone_ends rfl rfl) <|
    execAll_cons (exec_cMin0_skips rfl hcst) <| execAll_cons (exec_dlydone_ends rfl rfl) hmore

/-- Steps 7 and 8: the clamp leaves CST = 0, whether CST was Idle or outside the enumeration. -/
theorem execAll_chk_to_mClr {u : State} (hseq : u.seq = Phase.cChk) (hcst : u.cst = 0 ∨ u.cst = 3) :
    execAll [.cChk, .dlydone, .cDone] u = .next { u with ind := false, pen := true, cst := 0, seq := Phase.mClr } := by
  have hidle : (if isOutOfRange u.cst then 0 else u.cst) = 0 := by obtain h | h := hcst <;> rw [h] <;> rfl
  rw [← hidle]
  exact execAll_cons (exec_cChk_at hseq) <| execAll_cons (exec_dlydone_ends rfl rfl) <|
    execAll_cons (exec_cDone_at rfl) rfl

/-- Settles O26: the minimum is skipped; then the maximum is skipped, or C_MAXS leaves CST = 0 for the check. -/
theorem routineEnteredOutsideAwaitingMin : Obligations.RoutineEnteredOutsideAwaitingMin := by
  refine fun s hseq => ⟨fun hcst => ?_, fun hcst hbtn => ?_⟩
  · have hmin : s.cst ≠ 1 := by obtain h | h := hcst <;> rw [h] <;> decide
    have hmax : s.cst ≠ 2 := by obtain h | h := hcst <;> rw [h] <;> decide
    exact execAll_skips_to_cMax0 hseq hmin <| execAll_cons (exec_cMax0_skips rfl hmax) <| execAll_chk_to_mClr rfl hcst
  · have hmin : s.cst ≠ 1 := by rw [hcst]; decide
    exact execAll_skips_to_cMax0 hseq hmin <| execAll_cons (exec_cMax0_prompts rfl hcst) <|
      execAll_cons (exec_cMaxw_pressed rfl hbtn) <| execAll_cons (exec_dlydone_ends rfl rfl) <|
      execAll_cons (exec_cMaxs_at rfl) <| execAll_chk_to_mClr rfl (.inl rfl)

/-! ### The moves of the CalibrationState, R188 -/

/-- A sequencer operation that moves CST was at its phase. -/
theorem whenPhase_moves_cst {code : PhaseCode} {s t : State} {r : Result} (h : whenPhase code s r = .next t)
    (hmoved : t.cst ≠ s.cst) : s.seq = code := by
  obtain ⟨hseq, -⟩ | rfl := whenPhase_next h
  · exact hseq
  · exact absurd rfl hmoved

/-- M_REQ moves CST from Idle to AwaitingMin only (R154). -/
theorem exec_mReq_moves_cst {s t : State} (hseq : s.seq = Phase.mReq) (h : exec .mReq s = .next t)
    (hmoved : t.cst ≠ s.cst) : s.cst = 0 ∧ t.cst = 1 := by
  cases hreq : s.req with
  | false =>
    cases (exec_mReq_passes hseq hreq).symm.trans h
    exact absurd rfl hmoved
  | true =>
    by_cases hpast : 1 < (s.rqc + 1).toNat
    · cases (exec_mReq_calls hseq hreq hpast).symm.trans h
      by_cases hidle : s.cst = 0
      · exact ⟨hidle, if_pos hidle⟩
      · exact absurd (if_neg hidle) hmoved
    · cases (exec_mReq_arms hseq hreq hpast).symm.trans h
      exact absurd rfl hmoved

theorem Inv.cst_at_cMins {s : State} (hinv : Inv s) (h : s.seq = Phase.cMins) : s.cst = 1 :=
  hinv.run.1 (by rw [State.phaseIn, h]; decide)

theorem Inv.cst_at_cMaxs {s : State} (hinv : Inv s) (h : s.seq = Phase.cMaxs) : s.cst = 2 :=
  hinv.run.2 (by rw [State.phaseIn, h]; decide)

/-- Settles O56: of the four writers of CST (R21) C_CHK keeps it, as the invariant holds it inside the enumeration, and the
invariant fixes the CST that C_MINS and C_MAXS find. -/
theorem calibrationStateMovesForward : Obligations.CalibrationStateMovesForward := by
  intro s t hinv h
  obtain ⟨q, rfl⟩ | ⟨i, q, k, hexec⟩ := step_next h
  · exact .inl rfl
  by_cases hreset : i = .reset
  · subst hreset
    cases hexec
    exact .inr (.inr (.inr (.inr rfl)))
  obtain hkept | hmoved := eq_or_ne t.cst s.cst
  · exact .inl hkept
  obtain ⟨-, -, -, -, -, -, -, hwriter, -⟩ := writersOfEachRegister i _ t hexec hreset
  obtain rfl | rfl | rfl | rfl := hwriter hmoved
  · have hseq := whenPhase_moves_cst hexec hmoved
    obtain ⟨hidle, hone⟩ := exec_mReq_moves_cst hseq hexec hmoved
    exact .inr (.inl ⟨hidle, hone, hseq⟩)
  · have hseq := whenPhase_moves_cst hexec hmoved
    cases (exec_cMins_at hseq).symm.trans hexec
    exact .inr (.inr (.inl ⟨hinv.cst_at_cMins hseq, rfl, hseq, rfl⟩))
  · have hseq := whenPhase_moves_cst hexec hmoved
    cases (exec_cMaxs_at hseq).symm.trans hexec
    exact .inr (.inr (.inr (.inl ⟨hinv.cst_at_cMaxs hseq, rfl, hseq, rfl⟩)))
  · have hseq := whenPhase_moves_cst hexec hmoved
    cases (exec_cChk_keeps hseq hinv.cst.1).symm.trans hexec
    exact absurd rfl hmoved

end Sys2Proof.Machine
end

section
/-! PROOFS. The exceptional conditions (60_exceptions.md): the two faults and who raises them (R200, R202, R203, R211), the
dropped triggers (R205), the holds (R212). -/

namespace Sys2Proof.Machine

/-! ### The faults, R202, R203 and R211 -/

theorem decodeSeq_of_unassigned {code : PhaseCode} (h : isAssigned code = false) : decodeSeq code = none :=
  Option.isNone_iff_eq_none.mp (Option.isSome_eq_false_iff.mp h)

/-- The sequencer's turn at an unassigned code raises F_SEQ with the code. -/
theorem runSelector_seq_unassigned {code : PhaseCode} (h : isAssigned code = false) (s : State) :
    runSelector (.seq code) s = .fault (.seq code) := by
  simp only [runSelector, decode, decodeSeq_of_unassigned h, decodeFault, raise]

/-- Settles O5: the ten codes are the unassigned ones. -/
theorem unassignedPhaseFaults : Obligations.UnassignedPhaseFaults := by
  intro s hcode
  refine ⟨runSelector_seq_unassigned ?_ s, rfl⟩
  rw [isAssigned_eq]
  obtain h | h := hcode
  · rw [h]; rfl
  · simp [Nat.not_lt.mpr h]

/-- M_SHOW divides by zero at its phase with an empty range, and no other operation faults. -/
theorem exec_fault_iff (i : Instr) (s : State) (f : Fault) : exec i s = .fault f ↔
    i = .mShow ∧ s.seq = Phase.mShow ∧ s.max.toInt = s.min.toInt ∧ f = .divZero := by
  constructor
  · intro hfault
    obtain ⟨t, hnext⟩ | ⟨rfl, -⟩ := exec_outcome i s
    · cases hfault.symm.trans hnext
    · by_cases hphase : s.seq = Phase.mShow
      · by_cases hrange : s.max.toInt = s.min.toInt
        · cases (exec_mShow_divZero hphase hrange).symm.trans hfault
          exact ⟨rfl, hphase, hrange, rfl⟩
        · obtain ⟨level, hlevel⟩ := scale_ok hrange s.meas.toInt
          cases (exec_mShow_at hphase hlevel).symm.trans hfault
      · cases (whenPhase_elsewhere hphase _).symm.trans hfault
  · rintro ⟨rfl, hphase, hrange, rfl⟩
    exact exec_mShow_divZero hphase hrange

/-- The decoder rejects unassigned codes of SEQ and nothing else (R87). -/
theorem decode_error {sel : Selector} {code : PhaseCode} (h : decode sel = .error (.unassignedPhase code)) :
    sel = .seq code ∧ isAssigned code = false := by
  cases sel with
  | seq c =>
    simp only [decode] at h
    split at h
    · cases h
    · rename_i hnone
      cases h
      exact ⟨rfl, congrArg Option.isSome hnone⟩
  | evt _ _ | lvl _ => cases h

/-- Everything a selector can do when it faults: its operation does, or it selects none. -/
theorem runSelector_fault {sel : Selector} {s : State} {f : Fault} (h : runSelector sel s = .fault f) :
    (∃ i, exec i s = .fault f) ∨ ∃ code, sel = .seq code ∧ isAssigned code = false ∧ f = .seq code := by
  unfold runSelector at h
  split at h
  · exact .inl ⟨_, h⟩
  · rename_i e herror
    obtain ⟨code⟩ := e
    obtain ⟨hsel, hunassigned⟩ := decode_error herror
    cases h
    exact .inr ⟨code, hsel, hunassigned, rfl⟩

/-- Everything a step can do when it faults: M_SHOW's operation, or the sequencer's turn at an unassigned code. -/
theorem step_fault {s : State} {f : Fault} (h : step s = .fault f) :
    (f = .divZero ∧ s.seq = Phase.mShow ∧ s.max.toInt = s.min.toInt) ∨ (f = .seq s.seq ∧ isAssigned s.seq = false) := by
  cases hfetch : fetch s with
  | nothing t => cases (step_of_fetch_nothing hfetch).symm.trans h
  | run sel t =>
    rw [step_of_fetch_run hfetch] at h
    obtain ⟨i, hexec⟩ | ⟨code, rfl, hunassigned, rfl⟩ := runSelector_fault h
    · obtain ⟨q, k, rfl⟩ := fetch_run_frame hfetch
      obtain ⟨-, hphase, hrange, hf⟩ := (exec_fault_iff i _ f).mp hexec
      exact .inl ⟨hf, hphase, hrange⟩
    · cases fetch_run_seq hfetch
      exact .inr ⟨rfl, hunassigned⟩

/-- Settles O47: a step faults as the operation or the selector that it runs does. -/
theorem faultsAreTheTwoOfTheSpec : Obligations.FaultsAreTheTwoOfTheSpec := by
  refine ⟨exec_fault_iff, fun s f h => ?_⟩
  obtain ⟨rfl, hphase, hrange⟩ | ⟨rfl, hunassigned⟩ := step_fault h
  · exact .inl ⟨rfl, rfl, hphase, hrange⟩
  · exact .inr ⟨rfl, rfl, hunassigned⟩

/-- Settles O52: RESET is the one line that a faulted run performs. -/
theorem onlyResetEndsAFaultedRun : Obligations.OnlyResetEndsAFaultedRun := fun _ _ => ⟨fun _ h => if_neg h, rfl⟩

/-! ### Dropped triggers, R205 -/

/-- Settles O8: both masked triggers are dropped. -/
theorem maskedTriggersAreDropped : Obligations.MaskedTriggersAreDropped :=
  fun d _ => ⟨fun h => exec_sample_dropped h d, exec_poll_dropped⟩

/-! ### The holds, R212 -/

theorem holds_iff (s : State) :
    holds s = true ↔ isDelayPhase s.seq = true ∨ (s.seq = Phase.cMinw ∨ s.seq = Phase.cMaxw) ∧ s.btn = false := by
  simp [holds, isButtonWait]

theorem runSelector_at_delayPhase {s : State} (h : isDelayPhase s.seq = true) :
    runSelector (.seq s.seq) s = .next s := by
  obtain h | h | h | h | h | h := (isDelayPhase_iff s.seq).mp h <;> rw [h] <;> exact whenPhase_hold _ s

theorem runSelector_of_holds {s : State} (h : holds s = true) : runSelector (.seq s.seq) s = .next s := by
  obtain hdelay | ⟨hmin | hmax, hbtn⟩ := (holds_iff s).mp h
  · exact runSelector_at_delayPhase hdelay
  · exact (runSelector_seq (i := .cMinw) (hmin ▸ rfl)).trans (exec_cMinw_released hmin hbtn)
  · exact (runSelector_seq (i := .cMaxw) (hmax ▸ rfl)).trans (exec_cMaxw_released hmax hbtn)

/-- Outside the holds the sequencer moves SEQ nearer to one, or faults. -/
theorem runSelector_changes_of_not_holds {s : State} (hassigned : isAssigned s.seq = true) (hbusy : holds s = false) :
    runSelector (.seq s.seq) s ≠ .next s := by
  obtain ⟨i, hselects⟩ := exists_selected hassigned
  rw [runSelector_seq hselects]
  obtain ⟨t, hexec, hnearer⟩ | hfault := sequencer_nearer hselects rfl hbusy
  · rw [hexec]
    rintro ⟨⟩
    simp [nearer] at hnearer
  · rw [hfault]; nofun

/-- Settles O48: a hold answers the unchanged state, and the sequencer's progress elsewhere is seen in SEQ. -/
theorem holdsAreExactlyTheSpecs : Obligations.HoldsAreExactlyTheSpecs := by
  intro s hassigned
  have hunchanged : runSelector (.seq s.seq) s = .next s ↔ holds s = true :=
    ⟨fun h => Bool.of_not_eq_false fun hbusy => runSelector_changes_of_not_holds hassigned hbusy h, runSelector_of_holds⟩
  rw [hunchanged, holds_iff, isDelayPhase_iff]
  simp only [or_assoc]

end Sys2Proof.Machine
end

section
/-! PROOFS. Reachable states keep the invariant and go on (60_exceptions.md R202, R203; 70_reset_and_hazards.md R236). The
steering registers are as their phase fixes them (`Steered`); the data registers are bounded whatever the phase; SEQ, the
request and the mask at M_RESM are kept together with the steering (`RequestKept`). -/

namespace Sys2Proof.Machine

/-! ### The data registers, R236 (a) to (d) and (k) -/

/-- R236 (a) and (b): ACC is at most what the samples counted off CNT can have summed to. -/
structure WindowBounded (acc : Acc) (cnt : Count) : Prop where
  low : 1 ≤ cnt.toNat
  high : cnt.toNat ≤ 256
  acc : acc.toNat ≤ (256 - cnt.toNat) * 4095

/-- A light value: that of a RawSample in a signed register. -/
abbrev inRawRange (x : Data) : Prop := 0 ≤ sval x ∧ sval x ≤ 4095

/-- R236 (a) to (d) and (k), which do not depend on the phase. -/
structure DataBounded (s : State) : Prop where
  window : WindowBounded s.acc s.cnt
  res : inRawRange s.res
  meas : inRawRange s.meas
  min : inRawRange s.min
  max : inRawRange s.max
  disp : uval s.disp ≤ 9

/-- The sum inside SAMPLE is exact, and at most that of the largest samples (R236 (b)). -/
theorem WindowBounded.sum {acc : Acc} {cnt : Count} (hw : WindowBounded acc cnt) (d : RawSample) :
    (acc + sampleOperand d).toNat = acc.toNat + d.toNat ∧ acc.toNat + d.toNat ≤ (257 - cnt.toNat) * 4095 := by
  obtain ⟨hlow, hhigh, hacc⟩ := hw
  have hd := d.isLt
  have hoperand : (sampleOperand d).toNat = d.toNat := BitVec.toNat_setWidth_of_le (by decide)
  have hbound : acc.toNat + d.toNat ≤ (257 - cnt.toNat) * 4095 := by omega
  rw [BitVec.toNat_add_of_lt (by omega), hoperand]
  exact ⟨rfl, hbound⟩

theorem WindowBounded.sum_le {acc : Acc} {cnt : Count} (hw : WindowBounded acc cnt) (d : RawSample) :
    (acc + sampleOperand d).toNat ≤ 1048320 := by
  obtain ⟨hsum, hbound⟩ := hw.sum d
  have hlow := hw.low
  omega

/-- The mean keeps all bits of the quotient (R112). -/
theorem WindowBounded.mean {acc : Acc} {cnt : Count} (hw : WindowBounded acc cnt) (d : RawSample) :
    (meanByDivision 256 (acc + sampleOperand d)).toNat = (acc + sampleOperand d).toNat / 256 := by
  have hsum := hw.sum_le d
  exact meanByDivision_toNat (Nat.lt_of_le_of_lt hsum (by decide))

/-- The mean of a whole window is a light value (R236 (c)). -/
theorem WindowBounded.mean_inRawRange {acc : Acc} {cnt : Count} (hw : WindowBounded acc cnt) (d : RawSample) :
    inRawRange (meanByDivision 256 (acc + sampleOperand d)) := by
  have hsum := hw.sum_le d
  have hmean := hw.mean d
  rw [inRawRange, sval, BitVec.toInt_eq_toNat_of_lt (by omega), hmean]
  omega

/-- A sample that does not publish is added and counted. -/
theorem WindowBounded.counts {acc : Acc} {cnt : Count} (hw : WindowBounded acc cnt) (hcount : cnt - 1 ≠ 0)
    (d : RawSample) : WindowBounded (acc + sampleOperand d) (cnt - 1) := by
  obtain ⟨hsum, hbound⟩ := hw.sum d
  obtain ⟨hlow, hhigh, -⟩ := hw
  have hpred : (cnt - 1).toNat = cnt.toNat - 1 ∧ 1 < cnt.toNat := by bv_omega
  constructor <;> omega

/-- The window after RESET and after a publication. -/
theorem windowBounded_empty : WindowBounded 0 256 := by constructor <;> decide

theorem filterIntake_bounded {s : State} (hs : DataBounded s) (d : RawSample) : DataBounded (filterIntake 8 d s) := by
  rw [filterIntake_eq_filterIntakeDiv]
  by_cases hzero : s.cnt - 1 = 0
  · rw [filterIntakeDiv_publishes hzero]
    exact ⟨windowBounded_empty, hs.window.mean_inRawRange d, hs.meas, hs.min, hs.max, hs.disp⟩
  · rw [filterIntakeDiv_counts hzero]
    exact ⟨hs.window.counts hzero d, hs.res, hs.meas, hs.min, hs.max, hs.disp⟩

theorem afterReset_bounded (s : State) : DataBounded s.afterReset :=
  ⟨windowBounded_empty, (by decide : inRawRange 0), (by decide : inRawRange 0), (by decide : inRawRange 610),
    (by decide : inRawRange 4095), Nat.zero_le 9⟩

/-- An operation that its phase does not enable changes nothing, so only its effect has to be looked at. -/
theorem bounded_of_whenPhase {code : PhaseCode} {s t : State} {r : Result} (hs : DataBounded s)
    (h : whenPhase code s r = .next t) (heffect : r = .next t → DataBounded t) : DataBounded t := by
  obtain ⟨-, hr⟩ | rfl := whenPhase_next h
  · exact heffect hr
  · exact hs

/-- The same for an operation with one effect. -/
theorem bounded_of_effect {code : PhaseCode} {s t u : State} (hs : DataBounded s)
    (h : whenPhase code s (.next u) = .next t) (hu : DataBounded u) : DataBounded t :=
  bounded_of_whenPhase hs h fun hr => by cases hr; exact hu

/-- SAMPLE takes one more sample in; M_READ, C_MINS and C_MAXS copy RES; M_SHOW and the prompts write a display code. -/
theorem exec_bounded {i : Instr} {s t : State} (hs : DataBounded s) (h : exec i s = .next t) : DataBounded t := by
  cases i with
  | sample d =>
    obtain ⟨-, rfl⟩ | ⟨-, rfl⟩ := whenEnabled_next h
    · exact filterIntake_bounded hs d
    · exact hs
  | reset =>
    cases h
    exact afterReset_bounded s
  | mRead => exact bounded_of_effect hs h ⟨hs.window, hs.res, hs.res, hs.min, hs.max, hs.disp⟩
  | cMins => exact bounded_of_effect hs h ⟨hs.window, hs.res, hs.meas, hs.res, hs.max, hs.disp⟩
  | cMaxs => exact bounded_of_effect hs h ⟨hs.window, hs.res, hs.meas, hs.min, hs.res, hs.disp⟩
  | mShow =>
    refine bounded_of_whenPhase hs h fun hr => ?_
    obtain ⟨level, rfl⟩ := showLevel_next hr
    exact ⟨hs.window, hs.res, hs.meas, hs.min, hs.max, dispenc_le level⟩
  | cMin0 | cMax0 =>
    refine bounded_of_effect hs h ?_
    split
    · exact ⟨hs.window, hs.res, hs.meas, hs.min, hs.max, dispenc_le _⟩
    · exact ⟨hs.window, hs.res, hs.meas, hs.min, hs.max, hs.disp⟩
  | _ =>
    rw [← exec_takeWrites h]
    exact ⟨hs.window, hs.res, hs.meas, hs.min, hs.max, hs.disp⟩

/-! ### SEQ, the request and the mask at M_RESM, R236 (g), (j) and R172 (b) -/

/-- The phases from M_REQ's call to M_CLR, in which REQ stays 1 (R172 (b)). -/
def requestPending (code : PhaseCode) : Bool := within 0x08 0x16 code || code == Phase.mClr

/-- What the steering registers do not say of the phase `code`: it is assigned (R236 (g)), its request is pending (R172 (b)),
and at M_RESM one request counted means that no run has just ended (R236 (j)). -/
structure RequestKeptAt (code : PhaseCode) (s : State) : Prop where
  assigned : isAssigned code = true
  request : requestPending code = true → s.req = true
  resume : code = Phase.mResm → s.rqc = 1 → s.sen = false

/-- A state whose request is as its own phase fixes it. -/
abbrev RequestKept (s : State) : Prop := RequestKeptAt s.seq s

theorem requestKept_of_same {s t : State} (hs : RequestKept s) (hseq : t.seq = s.seq) (hreq : s.req = true → t.req = true)
    (hrqc : t.rqc = s.rqc) (hsen : t.sen = s.sen) : RequestKept t := by
  rw [RequestKept, hseq]
  exact ⟨hs.assigned, fun h => hreq (hs.request h), fun hresm hone => hsen.trans (hs.resume hresm (hrqc ▸ hone))⟩

theorem exec_dlydone_requestKept {s t : State} (hs : RequestKept s) (h : exec .dlydone s = .next t) : RequestKept t := by
  cases h
  cases hdelay : isDelayPhase s.seq with
  | false => exact requestKept_of_same hs (afterDelay_of_not_delay s.seq hdelay) id rfl rfl
  | true =>
    obtain h | hroutine := (isDelayPhase_iff s.seq).mp hdelay
    · rw [h]
      exact ⟨rfl, nofun, nofun⟩
    · obtain h | h | h | h | h := hroutine <;> rw [RequestKept, h] at hs <;> rw [h] <;>
        exact ⟨rfl, fun _ => hs.request rfl, nofun⟩

/-- M_REQ goes on to M_RESM without a request and under the mask, or to a phase with the request that it observed. -/
theorem exec_mReq_requestKept {s t : State} (h : s.seq = Phase.mReq) (hmasked : s.sen = false)
    (hexec : exec .mReq s = .next t) : RequestKept t := by
  cases hreq : s.req with
  | false =>
    cases (exec_mReq_passes h hreq).symm.trans hexec
    exact ⟨rfl, nofun, fun _ _ => hmasked⟩
  | true =>
    by_cases hpast : 1 < (s.rqc + 1).toNat
    · cases (exec_mReq_calls h hreq hpast).symm.trans hexec
      exact ⟨rfl, fun _ => hreq, nofun⟩
    · cases (exec_mReq_arms h hreq hpast).symm.trans hexec
      exact ⟨rfl, fun _ => hreq, nofun⟩

/-- M_CLR keeps a count of one only when no run has ended, and then SEN = 0. -/
theorem exec_mClr_requestKept {ended : Bool} {s t : State} (h : s.seq = Phase.mClr) (hs : SteeredAt ended Phase.mClr s)
    (hexec : exec .mClr s = .next t) : RequestKept t := by
  have hrqc : s.rqc = if ended then 2 else 1 := List.mem_singleton.mp hs.rqc
  cases ended with
  | false =>
    cases (exec_mClr_keeps h (by rw [hrqc]; decide)).symm.trans hexec
    exact ⟨rfl, nofun, fun _ _ => hs.sen⟩
  | true =>
    cases (exec_mClr_disarms h (by rw [hrqc]; decide)).symm.trans hexec
    exact ⟨rfl, nofun, nofun⟩

/-- An operation that its phase does not enable changes nothing, so only its effect has to be looked at. -/
theorem requestKept_of_whenPhase {code : PhaseCode} {s t : State} {r : Result} (hs : RequestKept s)
    (h : whenPhase code s r = .next t) (heffect : s.seq = code → RequestKeptAt code s → r = .next t → RequestKept t) :
    RequestKept t := by
  obtain ⟨hseq, hr⟩ | rfl := whenPhase_next h
  · exact heffect hseq (hseq ▸ hs) hr
  · exact hs

/-- The same for an operation with one effect, which does not lead to M_RESM. -/
theorem requestKept_of_effect {code : PhaseCode} {s t u : State} (hs : RequestKept s)
    (h : whenPhase code s (.next u) = .next t) (hassigned : isAssigned u.seq = true) (hresm : u.seq ≠ Phase.mResm)
    (hu : RequestKeptAt code s → requestPending u.seq = true → u.req = true) : RequestKept t :=
  requestKept_of_whenPhase hs h fun _ hat hr => by cases hr; exact ⟨hassigned, hu hat, fun h => absurd h hresm⟩

theorem exec_requestKept {ended : Bool} {i : Instr} {s t : State} (hsteered : Steered ended s) (hs : RequestKept s)
    (h : exec i s = .next t) : RequestKept t := by
  cases i with
  | sample _ | btn _ =>
    rw [← exec_takeWrites h]
    exact requestKept_of_same hs rfl id rfl rfl
  | poll =>
    obtain ⟨-, rfl⟩ | ⟨-, rfl⟩ := whenEnabled_next h
    · exact requestKept_of_same hs rfl (fun hreq => by simp [hreq]) rfl rfl
    · exact hs
  | dlydone => exact exec_dlydone_requestKept hs h
  | reset =>
    cases h
    exact ⟨rfl, nofun, nofun⟩
  | mReq =>
    refine requestKept_of_whenPhase hs h fun hseq _ _ => exec_mReq_requestKept hseq ?_ h
    rw [hsteered.sen, hseq]; rfl
  | mClr =>
    refine requestKept_of_whenPhase hs h fun hseq _ _ => exec_mClr_requestKept (ended := ended) hseq ?_ h
    rwa [Steered, hseq] at hsteered
  | mShow =>
    refine requestKept_of_whenPhase hs h fun _ _ hr => ?_
    obtain ⟨level, rfl⟩ := showLevel_next hr
    exact ⟨rfl, nofun, nofun⟩
  | cMin0 | cMax0 =>
    refine requestKept_of_whenPhase hs h fun _ hat hr => ?_
    cases hr
    split <;> exact ⟨rfl, fun _ => hat.request rfl, nofun⟩
  | cMinw | cMaxw =>
    refine requestKept_of_whenPhase hs h fun _ hat hr => ?_
    split at hr <;> cases hr
    · exact ⟨rfl, fun _ => hat.request rfl, nofun⟩
    · exact hs
  | mWait | cDly1 | cMind | cDly2 | cMaxd | cDly3 =>
    cases (whenPhase_hold _ s).symm.trans h
    exact hs
  | mSusp | mRead | mResm => exact requestKept_of_effect hs h rfl nofun nofun
  | _ => exact requestKept_of_effect hs h rfl nofun fun hat _ => hat.request rfl

/-! ### The invariant, R236 -/

theorem within_iff (lo hi : PhaseCode) (s : State) : within lo hi s.seq = true ↔ s.phaseIn lo.toNat hi.toNat := by
  simp only [within, Bool.and_eq_true, decide_eq_true_eq, BitVec.le_def]

/-- CST is 1 and 2 in the two parts of a calibration run and 0 elsewhere (R188, R236 (e)). -/
theorem SteeredAt.cst_iff {ended : Bool} {code : PhaseCode} {s : State} (hs : SteeredAt ended code s) :
    s.cst.toNat ≤ 2 ∧ (s.cst = 1 ↔ within 0x08 0x0E code = true) ∧ (s.cst = 2 ↔ within 0x0F 0x13 code = true) := by
  rw [hs.cst]
  clear hs
  revert code
  decide

/-- The counts of each phase (R236 (f)); at M_CLR the count tells whether a run has ended. -/
theorem countsAt_spec : ∀ (ended : Bool) (code : PhaseCode), ∀ n ∈ countsAt ended code,
    n.toNat ≤ 2 ∧ (n = 2 → within 0x08 0x16 code = true ∨ code = Phase.mClr) ∧
      (within 0x08 0x16 code = true → n = 2) ∧ (code = Phase.mClr → n = if ended then 2 else 1) := by decide

/-- At M_CLR the sample path is open exactly after a run, which the count shows (R236 (j)). -/
theorem Steered.sen_at_mClr {ended : Bool} {s : State} (hs : Steered ended s) (h : s.seq = Phase.mClr) :
    s.sen = (s.rqc == 2) := by
  obtain ⟨-, -, -, hclear⟩ := countsAt_spec ended s.seq s.rqc hs.rqc
  rw [hs.sen, hclear h, h]
  cases ended <;> rfl

/-- SEN = 0 in the mask window (R236 (j)). -/
theorem Steered.masked {ended : Bool} {s : State} (hs : Steered ended s)
    (h : s.seq = 0x01 ∨ s.seq = 0x02 ∨ s.seq = 0x03 ∨ s.seq = 0x08 ∨ s.seq = 0x09 ∨ (s.seq = 0x04 ∧ s.rqc = 1)) :
    s.sen = false := by
  obtain h | h | h | h | h | ⟨h, hone⟩ := h
  pick_goal 6
  · rw [hs.sen_at_mClr h, hone]; rfl
  all_goals rw [hs.sen, h]; rfl

/-- SEN = 1 outside it (R236 (j)). -/
theorem Steered.unmasked {ended : Bool} {s : State} (hs : Steered ended s)
    (h : s.seq = 0x00 ∨ s.seq = 0x06 ∨ s.phaseIn 0x0A 0x16 ∨ (s.seq = 0x04 ∧ s.rqc = 2)) : s.sen = true := by
  obtain h | h | h | ⟨h, htwo⟩ := h
  · rw [hs.sen, h]; rfl
  · rw [hs.sen, h]; rfl
  · rw [hs.sen, (within_iff 0x0A 0x16 s).mpr h, Bool.or_true, Bool.true_or]
  · rw [hs.sen_at_mClr h, htwo]; rfl

/-- The invariant in the form that the induction keeps: the steering registers by phase, in a run that remembers whether a
calibration run has ended, the bounds of the data registers, and the request. -/
structure SteeredInv (ended : Bool) (s : State) : Prop where
  steered : Steered ended s
  bounded : DataBounded s
  request : RequestKept s

theorem SteeredInv.inv {ended : Bool} {s : State} (h : SteeredInv ended s) : Inv s := by
  obtain ⟨hs, hd, hr⟩ := h
  obtain ⟨hcst, hone, htwo⟩ := hs.cst_iff
  obtain ⟨hcount, hends, hrun, hclear⟩ := countsAt_spec ended s.seq s.rqc hs.rqc
  have hroutine := within_iff 0x08 0x16 s
  have hmin := within_iff 0x08 0x0E s
  have hmax := within_iff 0x0F 0x13 s
  exact {
    cnt := ⟨hd.window.low, hd.window.high⟩
    acc := hd.window.acc
    res := hd.res
    meas := hd.meas
    min := hd.min
    max := hd.max
    disp := hd.disp
    cst := ⟨hcst, fun h => hmin.mp (hone.mp h), fun h => hmax.mp (htwo.mp h)⟩
    run := ⟨fun h => hone.mpr (hmin.mpr h), fun h => htwo.mpr (hmax.mpr h)⟩
    rqc := ⟨hcount, fun h => (hends h).imp_left hroutine.mp⟩
    counter := ⟨fun h => hrun (hroutine.mpr h), fun h => by rw [hclear h]; cases ended <;> decide⟩
    seq := hr.assigned
    ind := by rw [hs.ind]; exact within_iff 0x09 0x16 s
    pen := by rw [hs.pen, Bool.not_eq_false']; exact within_iff 0x0A 0x16 s
    masked := hs.masked
    unmasked := hs.unmasked
    resume := hr.resume
    request := fun h => hr.request (by simpa [requestPending] using h.imp_left hroutine.mpr) }

theorem steeredInv_afterReset (s : State) : SteeredInv false s.afterReset :=
  ⟨steered_afterReset s, afterReset_bounded s, rfl, nofun, nofun⟩

/-- No clause speaks of what a fetch changes. -/
theorem SteeredInv.fetched {ended : Bool} {s : State} (h : SteeredInv ended s) (q : List Moment) (k : Nat) :
    SteeredInv ended { s with inbox := q, draws := k } := by
  obtain ⟨hs, hd, hr⟩ := h
  exact ⟨⟨hs.cst, hs.pen, hs.ind, hs.sen, hs.rqc, hs.ended⟩, ⟨hd.window, hd.res, hd.meas, hd.min, hd.max, hd.disp⟩,
    hr.assigned, hr.request, hr.resume⟩

theorem exec_steeredInv {ended : Bool} {i : Instr} {s t : State} (h : SteeredInv ended s) (hexec : exec i s = .next t) :
    SteeredInv (runEnded s t ended) t :=
  ⟨exec_steered h.steered hexec, exec_bounded h.bounded hexec, exec_requestKept h.steered h.request hexec⟩

/-- The induction's step: an empty moment is passed over, or one operation performed. -/
theorem step_steeredInv {ended : Bool} {s t : State} (h : SteeredInv ended s) (hstep : step s = .next t) :
    SteeredInv (runEnded s t ended) t := by
  obtain ⟨q, rfl⟩ | ⟨i, q, k, hexec⟩ := step_next hstep
  · have hsame : runEnded s { s with inbox := q } ended = ended := runEnded_of_seq_eq h.steered rfl
    rw [hsame]
    exact h.fetched q s.draws
  · have hafter := exec_steeredInv (h.fetched q k) hexec
    exact hafter

theorem reachableSince_steeredInv {ended : Bool} {s : State} (h : ReachableSince ended s) : SteeredInv ended s := by
  induction h with
  | start level moments k =>
    exact steeredInv_afterReset { State.reset with btn := level, inbox := moments, draws := k }
  | step _ ht ih => exact step_steeredInv ih ht

theorem reachable_inv {s : State} (h : Reachable s) : Inv s := by
  obtain ⟨ended, hsince⟩ := since_of_reachable h
  exact (reachableSince_steeredInv hsince).inv

/-- Nothing wraps in a state that meets the invariant (R236). -/
theorem Inv.noWrap {s : State} (hinv : Inv s) : NoWrap s := by
  have hwindow : WindowBounded s.acc s.cnt := ⟨hinv.cnt.1, hinv.cnt.2, hinv.acc⟩
  have hlow := hwindow.low
  have hrqc : s.rqc.toNat ≤ 2 := hinv.rqc.1
  exact {
    sum := fun d => ⟨(hwindow.sum d).1, (hwindow.sum d).1 ▸ hwindow.sum_le d⟩
    count := show (s.cnt - 1).toNat + 1 = s.cnt.toNat by bv_omega
    mean := fun d => meanByShift_eq_meanByDivision 8 _ ▸ hwindow.mean d
    requests := show (s.rqc + 1).toNat = s.rqc.toNat + 1 by bv_omega }

/-- A step from a state at an assigned phase goes on, or M_SHOW divides by zero (R202, R203). -/
theorem step_goes_on {s : State} (h : isAssigned s.seq = true) :
    (∃ t, step s = .next t) ∨ (step s = .fault .divZero ∧ s.seq = Phase.mShow ∧ s.max = s.min) := by
  cases hstep : step s with
  | next t => exact .inl ⟨t, rfl⟩
  | fault f =>
    obtain ⟨rfl, hphase, hrange⟩ | ⟨-, hunassigned⟩ := step_fault hstep
    · exact .inr ⟨rfl, hphase, BitVec.toInt_inj.mp hrange⟩
    · cases h.symm.trans hunassigned
  | refused r => exact absurd hstep (noStepIsRefused s r)

/-- Settles O59: the invariant holds of every reachable state, bounds the operands of the modular operations, and holds SEQ at
an assigned phase. -/
theorem reachableStatesKeepTheirBoundsAndGoOn : Obligations.ReachableStatesKeepTheirBoundsAndGoOn := by
  intro s h
  have hinv := reachable_inv h
  exact ⟨hinv, hinv.noWrap, step_goes_on hinv.seq⟩

end Sys2Proof.Machine
end

section
/-! PROOFS. RESET, the first iteration after it, the hazard of a poll before M_CLR, and the invariant as the step lemma
(70_reset_and_hazards.md R230, R232, R236, R243). A state that meets the invariant is in the form that the induction of
`step_steeredInv` keeps (`Inv.steeredInv`). -/

namespace Sys2Proof.Machine

/-! ### RESET and the first iteration, R230 to R232 -/

/-- Settles O12: RESET's selector, its bit of EV, and `State.afterReset` field by field. -/
theorem resetWritesEveryRegister : Obligations.ResetWritesEveryRegister := ⟨rfl, rfl, fun _ => rfl⟩

/-- Settles O57: the reset state is what RESET makes of any state. -/
theorem invariantHoldsAtReset : Obligations.InvariantHoldsAtReset := fun level moments k =>
  (steeredInv_afterReset { State.reset with btn := level, inbox := moments, draws := k }).inv

/-- Settles O40: RES = 0 lies below the default MIN. -/
theorem firstIterationShowsLevelZero : Obligations.FirstIterationShowsLevelZero := by
  intro level moments k
  have hbelow : scale 0 610 4095 = .ok 0 := scale_proper_low (by decide) (by decide)
  exact seqRun_shows (s := { State.reset with btn := level, inbox := moments, draws := k }) rfl hbelow rfl

/-! ### A poll between C_DONE and M_CLR, R243 -/

/-- Settles O27: C_DONE enables the poll, which is taken into REQ, and M_CLR clears REQ. -/
theorem pollBeforeClearIsLost : Obligations.PollBeforeClearIsLost := by
  intro s hseq hbtn hrqc
  obtain ⟨-, -, hpolls⟩ := pollSetsRequestWhenPressed
  obtain ⟨hpressed, -, -⟩ := hpolls { s with ind := false, pen := true, seq := Phase.mClr }
  have hpoll := hpressed rfl hbtn
  exact ⟨execAll_cons (exec_cDone_at hseq) <| execAll_cons hpoll rfl,
    execAll_cons (exec_cDone_at hseq) <| execAll_cons hpoll <| execAll_cons (exec_mClr_disarms rfl hrqc) rfl⟩

/-! ### The invariant is what the induction keeps, R236 -/

/-- Whether a calibration run has ended, as SEN shows it at M_CLR and M_RESM (R236 (j)). -/
def endedShown (s : State) : Bool := within 0x04 0x05 s.seq && s.sen

/-- R188 fixes CST inside a calibration run, and R236 (e) leaves only Idle outside it. -/
theorem Inv.cst_eq {s : State} (hinv : Inv s) :
    s.cst = if within 0x08 0x0E s.seq then 1 else if within 0x0F 0x13 s.seq then 2 else 0 := by
  obtain ⟨hle : s.cst.toNat ≤ 2, hone, htwo⟩ := hinv.cst
  obtain ⟨hmin, hmax⟩ := hinv.run
  have hminPhases := within_iff 0x08 0x0E s
  have hmaxPhases := within_iff 0x0F 0x13 s
  split
  · rename_i h
    exact hmin (hminPhases.mp h)
  · rename_i houtMin
    split
    · rename_i h
      exact hmax (hmaxPhases.mp h)
    · rename_i houtMax
      have hnotOne : s.cst ≠ 1 := fun h => houtMin (hminPhases.mpr (hone h))
      have hnotTwo : s.cst ≠ 2 := fun h => houtMax (hmaxPhases.mpr (htwo h))
      bv_omega

/-- At M_CLR the count is 1 or 2, and SEN tells which (R236 (f) and (j)). -/
theorem Inv.rqc_at_mClr {s : State} (hinv : Inv s) (h : s.seq = Phase.mClr) : s.rqc = if s.sen then 2 else 1 := by
  have hle : s.rqc.toNat ≤ 2 := hinv.rqc.1
  have hne := hinv.counter.2 h
  obtain hone | htwo : s.rqc = 1 ∨ s.rqc = 2 := by bv_omega
  · rw [hinv.masked (by simp [h, hone]), hone]; rfl
  · rw [hinv.unmasked (by simp [h, htwo]), htwo]; rfl

/-- The count is one that the phase allows (R236 (f)). -/
theorem Inv.rqc_mem {s : State} (hinv : Inv s) : s.rqc ∈ countsAt (endedShown s) s.seq := by
  obtain ⟨hle : s.rqc.toNat ≤ 2, htwo⟩ := hinv.rqc
  have hroutine := within_iff 0x08 0x16 s
  unfold countsAt
  split
  · rename_i h
    exact List.mem_singleton.mpr (hinv.counter.1 (hroutine.mp h))
  · rename_i hout
    split
    · rename_i h
      have hshown : endedShown s = s.sen := by rw [endedShown, h]; rfl
      rw [hshown]
      exact List.mem_singleton.mpr (hinv.rqc_at_mClr h)
    · rename_i hclear
      have hnotTwo : s.rqc ≠ 2 := fun h => (htwo h).elim (fun h => hout (hroutine.mpr h)) hclear
      have hcount : s.rqc = 0 ∨ s.rqc = 1 := by bv_omega
      simpa using hcount

/-- The phases as R236 (j) sorts them: in the mask window, outside it, and the two at which the run decides. -/
theorem assigned_mask_cases : ∀ code : PhaseCode, isAssigned code = true →
    (code = 0x01 ∨ code = 0x02 ∨ code = 0x03 ∨ code = 0x08 ∨ code = 0x09) ∨
      (code = 0x00 ∨ code = 0x06 ∨ within 0x0A 0x16 code = true) ∨ code = 0x04 ∨ code = 0x05 := by decide

/-- SEN at every phase (R236 (j)). -/
theorem Inv.sen_eq {s : State} (hinv : Inv s) :
    s.sen = (s.seq == Phase.mSusp || s.seq == Phase.mWait || within 0x0A 0x16 s.seq ||
      within 0x04 0x05 s.seq && endedShown s) := by
  unfold endedShown
  obtain hmasked | hopen | hrun := assigned_mask_cases s.seq hinv.seq
  · have hsen := hinv.masked (by tauto)
    obtain h | h | h | h | h := hmasked <;> rw [hsen, h] <;> rfl
  · have hsen := hinv.unmasked (by rw [within_iff] at hopen; tauto)
    obtain h | h | h := hopen <;> rw [hsen, h]
    · rfl
    · rfl
    · rw [Bool.or_true, Bool.true_or]
  · obtain h | h := hrun <;> rw [h] <;> rfl

/-- The invariant fixes the steering registers by phase. -/
theorem Inv.steered {s : State} (hinv : Inv s) : Steered (endedShown s) s where
  cst := hinv.cst_eq
  pen := by
    rw [← Bool.not_eq_eq_eq_not, Bool.eq_iff_iff, Bool.not_eq_true']
    exact hinv.pen.trans (within_iff 0x0A 0x16 s).symm
  ind := Bool.eq_iff_iff.mpr (hinv.ind.trans (within_iff 0x09 0x16 s).symm)
  sen := hinv.sen_eq
  rqc := hinv.rqc_mem
  ended := by
    have hphases : ∀ code : PhaseCode, within 0x04 0x05 code = true → within 0x04 0x06 code = true := by decide
    intro h
    exact hphases s.seq (Bool.and_eq_true_iff.mp h).1

/-- A state that meets the invariant is in the form that the induction keeps: the converse of `SteeredInv.inv`. -/
theorem Inv.steeredInv {s : State} (hinv : Inv s) : SteeredInv (endedShown s) s where
  steered := hinv.steered
  bounded := ⟨⟨hinv.cnt.1, hinv.cnt.2, hinv.acc⟩, hinv.res, hinv.meas, hinv.min, hinv.max, hinv.disp⟩
  request :=
    { assigned := hinv.seq
      request := fun h => hinv.request (by simpa [requestPending, within_iff] using h)
      resume := hinv.resume }

/-- Settles O58: the step keeps the invariant in the induction's form (`step_steeredInv`). -/
theorem everyStepKeepsTheInvariant : Obligations.EveryStepKeepsTheInvariant := fun _ _ hinv hstep =>
  (step_steeredInv hinv.steeredInv hstep).inv

end Sys2Proof.Machine
end
